-- ==== Sys2Proof/Word.lean ====
section
/-! DEFINITION. The widths of the block's values (00_scope.md R10, R13; 10_state.md R21), the two coded state fields
RUN and FSM, and the decoded record of one reading. -/

namespace Sys2Proof

/-- A byte is 8 bits (R13). -/
abbrev Byte := BitVec 8
/-- A 16-bit field: rotation speed, received checksum, signal strength. -/
abbrev Half := BitVec 16
/-- A 32-bit word: a slot word (R95), a host word (R63), the checksum accumulator (R131). -/
abbrev Word := BitVec 32
/-- A 32-bit event word (R98). -/
abbrev EventWord := BitVec 32
/-- A 24-bit byte address of the host read space (R60). -/
abbrev HostAddr := BitVec 24
/-- The 15-bit computed checksum (R131). -/
abbrev Chk := BitVec 15

/-- RUN, the lifecycle state of the producer side (R21, R22). -/
inductive RunState where
  | idle | running | stopped | disconnected
deriving DecidableEq, Repr

/-- FSM, the frame parser's state (R21, R25). The code 3 is unrepresentable, as R26 allows. -/
inductive Fsm where
  | seekStart | seekIndex | readBody
deriving DecidableEq, Repr

/-- The decoded record of one reading (R16, R190): what the consumer is given for one angle. -/
structure Reading where
  distanceMm     : BitVec 14
  weakSignalFlag : Bool
  invalidFlag    : Bool
  signalStrength : BitVec 16
deriving DecidableEq, Repr

end Sys2Proof
end

