-- ==== Sys2Proof/Config.lean ====
section
/-! DEFINITION. The fixed protocol parameters (00_scope.md R10), the index and array types they give, and the
implementation parameters (R11). -/

namespace Sys2Proof

/-! ### Fixed protocol parameters (R10) -/

/-- SENTINEL, the start-marker byte. -/
abbrev sentinel : Byte := 0xFA#8
/-- IDX_LO, the lowest packet-index byte. -/
abbrev idxLo : Byte := 0xA0#8
/-- IDX_HI, the highest packet-index byte. -/
abbrev idxHi : Byte := 0xF9#8
/-- N_PKT, packets per revolution. -/
abbrev nPkt : Nat := 90
/-- N_RD, readings per packet. -/
abbrev nRd : Nat := 4
/-- N_ANG, angles per revolution. -/
abbrev nAng : Nat := 360
/-- PKT_LEN, bytes per packet. -/
abbrev pktLen : Nat := 22
/-- CHK_BODY_LEN, bytes covered by the checksum (packet bytes 0 to 19). -/
abbrev chkBodyLen : Nat := 20
/-- RB_LEN, bytes read in READ_BODY (packet bytes 2 to 21; 90_conflicts.md C1). -/
abbrev rbLen : Nat := 20

/-- A packet index, 0 to N_PKT - 1 (R29). -/
abbrev PktIndex := Fin 90
/-- The packet index that closes a revolution, LAST_IDX (R213). -/
abbrev lastIdx : PktIndex := 89
/-- A reading's number within its packet, 0 to N_RD - 1 (R211). -/
abbrev Lane := Fin 4
/-- An angle, 0 to N_ANG - 1 (R60). -/
abbrev Angle := Fin 360
/-- BODY_CNT, 0 to RB_LEN - 1 (R21). -/
abbrev BodyCount := Fin 20
/-- A packet byte number, 0 to PKT_LEN - 1 (R60). -/
abbrev PktByte := Fin 22
/-- One scan array: a slot word for every angle (R34 to R36). -/
abbrev ScanArray := Vector Word 360
/-- The capture buffer (R28). -/
abbrev PktBuf := Vector Byte 22
/-- The fill record (R37). -/
abbrev FillRecord := Vector Bool 90

/-! ### Implementation parameters (R11) -/

/-- The parameters the source leaves open (R11). They are an argument of the model, held in `State.cfg`
(DESIGN CHOICE, log 4: safe, every statement about every state holds for every value). -/
structure Config where
  /-- ERR_W, the width of ERR_COUNT in bits (D5; DEDUCED at most 32, log 5). -/
  errW         : Nat
  /-- FILL_GUARD: publication also needs every packet index seen since reset (D6). -/
  fillGuard    : Bool
  /-- RX_TIMEOUT_EN: the byte source may deliver RX_TIMEOUT (D12). -/
  rxTimeoutEn  : Bool
  /-- REQ_TIMEOUT_EN: the consumer may deliver REQ_TIMEOUT (D13). -/
  reqTimeoutEn : Bool
deriving DecidableEq, Repr

/-- The baseline device of the source (R11). -/
def Config.baseline : Config :=
  { errW := 32, fillGuard := false, rxTimeoutEn := false, reqTimeoutEn := false }

/-- The baseline with both optional timeouts present: every class of R98 is legal. -/
def Config.withTimeouts : Config :=
  { Config.baseline with rxTimeoutEn := true, reqTimeoutEn := true }

/-- ERR_W is a register width that fits one host word (R33: "higher bits read as 0"; log 5). -/
def Config.legal (c : Config) : Bool := decide (1 ≤ c.errW) && decide (c.errW ≤ 32)

end Sys2Proof
end

