-- ==== Sys2Proof/Syntax.lean ====
section
/-! DEFINITION. The block's instructions: one constructor for every row of spec/opcode_table.json. An "instruction"
is an input event the block reacts to (00_scope.md R3). -/

namespace Sys2Proof

/-- The events of the block. A row whose 32 bits are all fixed has no operand; the byte of the other BYTE
rows, and the address of HOST_READ, are operands. -/
inductive Instr where
  /-- SS_SYNC (R151): the sentinel in SEEK_START. -/
  | ssSync
  /-- SS_DROP (R152): any other byte in SEEK_START. -/
  | ssDrop (b : Byte)
  /-- SI_INDEX (R153): an index byte in SEEK_INDEX. -/
  | siIndex (b : Byte)
  /-- SI_RESYNC (R154): the sentinel in SEEK_INDEX. -/
  | siResync
  /-- SI_DESYNC (R155): any other byte in SEEK_INDEX. -/
  | siDesync (b : Byte)
  /-- RB_BYTE (R156): one of the first 19 bytes of READ_BODY. -/
  | rbByte (b : Byte)
  /-- RB_LAST (R157): the last byte of READ_BODY. -/
  | rbLast (b : Byte)
  /-- RX_TIMEOUT (R243). -/
  | rxTimeout
  /-- RX_DISCONNECT (R242). -/
  | rxDisconnect
  /-- CTL_START (R244). -/
  | ctlStart
  /-- CTL_STOP (R245). -/
  | ctlStop
  /-- HOST_REQ (R247). -/
  | hostReq
  /-- REQ_TIMEOUT (R249). -/
  | reqTimeout
  /-- HOST_READ (R250) of a 24-bit byte address. -/
  | hostRead (addr : HostAddr)
  /-- RESET (R310). -/
  | reset
deriving DecidableEq, Repr

end Sys2Proof
end

