-- ==== Sys2Proof/WellFormed.lean ====
section
/-! DEFINITION. Which terms of `Instr` are instructions: the byte constraint of each BYTE row (30_encoding.md R101). -/

namespace Sys2Proof

/-- 0xA0 <= b <= 0xF9: b is a packet-index byte (R10, R101). -/
def isIndexByte (b : Byte) : Bool := decide (idxLo ≤ b) && decide (b ≤ idxHi)

/-- The row's constraint on the operand byte (R101). Every other operand value is legal (R103). -/
def Instr.wf : Instr → Bool
  | .ssSync => true
  | .ssDrop b => b != sentinel
  | .siIndex b => isIndexByte b
  | .siResync => true
  | .siDesync b => !isIndexByte b && b != sentinel
  | .rbByte _ => true
  | .rbLast _ => true
  | .rxTimeout => true
  | .rxDisconnect => true
  | .ctlStart => true
  | .ctlStop => true
  | .hostReq => true
  | .reqTimeout => true
  | .hostRead _ => true
  | .reset => true

end Sys2Proof
end

