-- ==== Sys2Proof/Decode.lean ====
section
/-! DEFINITION. The decoder of event words (30_encoding.md R98 to R103), total on every 32-bit word and rejecting by
name, the encoder written from the same table, and the opcode table's own match and mask columns. -/

namespace Sys2Proof

/-- Why an event word is illegal (R99). -/
inductive Reject where
  /-- The class is not in the table of R98. -/
  | unknownClass
  /-- A payload bit that must be 0 is 1. -/
  | nonzeroPayload
  /-- RX_TIMEOUT with RX_TIMEOUT_EN false. -/
  | rxTimeoutDisabled
  /-- REQ_TIMEOUT with REQ_TIMEOUT_EN false. -/
  | reqTimeoutDisabled
deriving DecidableEq, Repr

/-! ### Fields of an event word (R98) -/

/-- Bits [31:24], the event class. -/
def eventClass (w : EventWord) : Byte := w.extractLsb' 24 8
/-- Bits [23:0], the payload. -/
def eventPayload (w : EventWord) : HostAddr := w.extractLsb' 0 24
/-- Bits [23:8], which a BYTE event must leave 0. -/
def bytePad (w : EventWord) : BitVec 16 := w.extractLsb' 8 16
/-- Bits [7:0], the byte of a BYTE event. -/
def eventByte (w : EventWord) : Byte := w.extractLsb' 0 8

/-- The event classes of R98. -/
abbrev classByte : Byte := 0x00#8
abbrev classRxTimeout : Byte := 0x01#8
abbrev classRxDisconnect : Byte := 0x02#8
abbrev classCtlStart : Byte := 0x10#8
abbrev classCtlStop : Byte := 0x11#8
abbrev classHostReq : Byte := 0x20#8
abbrev classReqTimeout : Byte := 0x21#8
abbrev classHostRead : Byte := 0x30#8
abbrev classReset : Byte := 0xF0#8

/-- A legal BYTE event word (R98, R99). -/
def isByteEvent (w : EventWord) : Bool := eventClass w == classByte && bytePad w == 0

/-! ### Decoding -/

/-- The byte map (R101): the one framer operation a byte performs, chosen by FSM, b and BODY_CNT alone. -/
def byteOp (fsm : Fsm) (cnt : BodyCount) (b : Byte) : Instr :=
  match fsm with
  | .seekStart => if b = sentinel then .ssSync else .ssDrop b
  | .seekIndex => if isIndexByte b then .siIndex b else if b = sentinel then .siResync else .siDesync b
  | .readBody => if cnt.val < rbLen - 1 then .rbByte b else .rbLast b

/-- An event whose payload must be 0 (R98, R99). -/
def decodePlain (w : EventWord) (i : Instr) : Except Reject Instr :=
  if eventPayload w = 0 then .ok i else .error .nonzeroPayload

/-- The decoder: what an event word is (R98 to R100) for a block with these parameters whose parser stands at
(FSM, BODY_CNT). Only the choice among the seven framer operations depends on the position. -/
def decode (cfg : Config) (fsm : Fsm) (cnt : BodyCount) (w : EventWord) : Except Reject Instr :=
  if eventClass w = classByte then
    if bytePad w = 0 then .ok (byteOp fsm cnt (eventByte w)) else .error .nonzeroPayload
  else if eventClass w = classRxTimeout then
    if cfg.rxTimeoutEn then decodePlain w .rxTimeout else .error .rxTimeoutDisabled
  else if eventClass w = classRxDisconnect then decodePlain w .rxDisconnect
  else if eventClass w = classCtlStart then decodePlain w .ctlStart
  else if eventClass w = classCtlStop then decodePlain w .ctlStop
  else if eventClass w = classHostReq then decodePlain w .hostReq
  else if eventClass w = classReqTimeout then
    if cfg.reqTimeoutEn then decodePlain w .reqTimeout else .error .reqTimeoutDisabled
  else if eventClass w = classHostRead then .ok (.hostRead (eventPayload w))
  else if eventClass w = classReset then decodePlain w .reset
  else .error .unknownClass

/-! ### Encoding -/

/-- Class in bits [31:24], payload in bits [23:0] (R98). -/
def eventWord (cls : Byte) (payload : HostAddr) : EventWord := cls.setWidth 32 <<< 24 ||| payload.setWidth 32

/-- The event word of a byte (R98, R104). -/
def byteWord (b : Byte) : EventWord := eventWord classByte (b.setWidth 24)

/-- The word of an instruction, from the table of R98. -/
def encode : Instr → EventWord
  | .ssSync => byteWord sentinel
  | .ssDrop b => byteWord b
  | .siIndex b => byteWord b
  | .siResync => byteWord sentinel
  | .siDesync b => byteWord b
  | .rbByte b => byteWord b
  | .rbLast b => byteWord b
  | .rxTimeout => eventWord classRxTimeout 0
  | .rxDisconnect => eventWord classRxDisconnect 0
  | .ctlStart => eventWord classCtlStart 0
  | .ctlStop => eventWord classCtlStop 0
  | .hostReq => eventWord classHostReq 0
  | .reqTimeout => eventWord classReqTimeout 0
  | .hostRead addr => eventWord classHostRead addr
  | .reset => eventWord classReset 0

/-- The FSM and BODY_CNT part of a row's constraint (R101, opcode_table.json "constraint"): the parser positions at
which a byte performs this operation. An event that is no BYTE event is independent of the position. -/
def Instr.selectedAt (fsm : Fsm) (cnt : BodyCount) : Instr → Bool
  | .ssSync => fsm == .seekStart
  | .ssDrop _ => fsm == .seekStart
  | .siIndex _ => fsm == .seekIndex
  | .siResync => fsm == .seekIndex
  | .siDesync _ => fsm == .seekIndex
  | .rbByte _ => fsm == .readBody && decide (cnt.val < rbLen - 1)
  | .rbLast _ => fsm == .readBody && decide (cnt.val = rbLen - 1)
  | .rxTimeout => true
  | .rxDisconnect => true
  | .ctlStart => true
  | .ctlStop => true
  | .hostReq => true
  | .reqTimeout => true
  | .hostRead _ => true
  | .reset => true

/-- Whether a block with these parameters has the event at all (R99, R243, R249). -/
def Instr.presentIn (cfg : Config) : Instr → Bool
  | .ssSync => true
  | .ssDrop _ => true
  | .siIndex _ => true
  | .siResync => true
  | .siDesync _ => true
  | .rbByte _ => true
  | .rbLast _ => true
  | .rxTimeout => cfg.rxTimeoutEn
  | .rxDisconnect => true
  | .ctlStart => true
  | .ctlStop => true
  | .hostReq => true
  | .reqTimeout => cfg.reqTimeoutEn
  | .hostRead _ => true
  | .reset => true

/-- The seven operations of a BYTE event (R150). -/
def Instr.isFramerOp : Instr → Bool
  | .ssSync => true
  | .ssDrop _ => true
  | .siIndex _ => true
  | .siResync => true
  | .siDesync _ => true
  | .rbByte _ => true
  | .rbLast _ => true
  | .rxTimeout => false
  | .rxDisconnect => false
  | .ctlStart => false
  | .ctlStop => false
  | .hostReq => false
  | .reqTimeout => false
  | .hostRead _ => false
  | .reset => false

/-! ### The opcode table's columns (spec/opcode_table.json "match" and "mask") -/

/-- "match" of the instruction's row. -/
def Instr.tableMatch : Instr → EventWord
  | .ssSync => 0x000000FA#32
  | .ssDrop _ => 0x00000000#32
  | .siIndex _ => 0x00000000#32
  | .siResync => 0x000000FA#32
  | .siDesync _ => 0x00000000#32
  | .rbByte _ => 0x00000000#32
  | .rbLast _ => 0x00000000#32
  | .rxTimeout => 0x01000000#32
  | .rxDisconnect => 0x02000000#32
  | .ctlStart => 0x10000000#32
  | .ctlStop => 0x11000000#32
  | .hostReq => 0x20000000#32
  | .reqTimeout => 0x21000000#32
  | .hostRead _ => 0x30000000#32
  | .reset => 0xF0000000#32

/-- "mask" of the instruction's row. -/
def Instr.tableMask : Instr → EventWord
  | .ssSync => 0xFFFFFFFF#32
  | .ssDrop _ => 0xFFFFFF00#32
  | .siIndex _ => 0xFFFFFF00#32
  | .siResync => 0xFFFFFFFF#32
  | .siDesync _ => 0xFFFFFF00#32
  | .rbByte _ => 0xFFFFFF00#32
  | .rbLast _ => 0xFFFFFF00#32
  | .rxTimeout => 0xFFFFFFFF#32
  | .rxDisconnect => 0xFFFFFFFF#32
  | .ctlStart => 0xFFFFFFFF#32
  | .ctlStop => 0xFFFFFFFF#32
  | .hostReq => 0xFFFFFFFF#32
  | .reqTimeout => 0xFFFFFFFF#32
  | .hostRead _ => 0xFF000000#32
  | .reset => 0xFFFFFFFF#32

/-! ### The host's table words -/

/-- The event word of a table word: its bits above `nbits` are 0 (event words are one 32-bit word, R98). -/
def tableWord (nbits w : Nat) : EventWord := BitVec.ofNat 32 (w % 2 ^ nbits)

/-- The instruction the decoder reads from a table word. A BYTE word says which operation it is only together with the
parser's position (R101), which a table word does not carry: it is read at the position of a block that has just been
started, (SEEK_START, 0), and with both optional events present (DESIGN CHOICE, log 8; safe: only the host's probe
uses it, `step` decodes at the state's own position and parameters). -/
def decodeTableWord (nbits w : Nat) : Option Instr :=
  if w % 2 ^ nbits < 2 ^ 32 then
    match decode Config.withTimeouts .seekStart 0 (tableWord nbits w) with
    | .ok i => some i
    | .error _ => none
  else none

end Sys2Proof
end

