-- ==== Sys2Proof/Machine/State.lean ====
section
/-! DEFINITION. The state of the block as plain data (10_state.md R21), the labels of its outputs, the reasons a step
can stop, and the state after reset (70_reset_and_hazards.md R310, R311). -/

namespace Sys2Proof.Machine

/-- What a Desync condition carries (R281): the dropped byte, or `timeout`. -/
inductive DesyncInfo where
  | byte (b : Byte)
  | timeout
deriving DecidableEq, Repr

/-- The conditions a step can raise (R281 to R286). They are labels of the output trace, held in no register. -/
inductive Condition where
  /-- Code 1, framing desync (R281): SS_DROP, SI_DESYNC, RX_TIMEOUT. -/
  | desync (info : DesyncInfo)
  /-- Code 2 (R282): RB_LAST, with PKT_IDX, the received and the computed checksum. -/
  | checksumMismatch (idx : PktIndex) (received : Half) (computed : Chk)
  /-- Code 3 (R285): the source's category (c), which is data; no step raises it. -/
  | sensorError
  /-- Code 4 (R284): RX_DISCONNECT. -/
  | disconnect
  /-- Code 5 (R283), informational: SI_RESYNC, with the new start byte. -/
  | resync (b : Byte)
deriving DecidableEq, Repr

/-- How a consumer request completes (R253). A scan response carries the snapshot of R251. -/
inductive Response where
  | scan (snapshot : ScanArray)
  | shutdown
  | timeout
deriving DecidableEq, Repr

/-- One output of a step (R326): a response, a HOST_READ data word or a condition label. -/
inductive Output where
  | resp (r : Response)
  | data (w : Word)
  | cond (c : Condition)
deriving DecidableEq, Repr

/-- The block's state. The first thirteen fields are the record of R21, in its order; the last three are the model's
own (log 1, log 4, log 6). FSM 3, BODY_CNT 20 to 31 and PKT_IDX 90 to 127, which no rule writes (R21, U19), are
unrepresentable (log 10). -/
structure State where
  /-- RUN (R22). -/
  run        : RunState
  /-- FSM (R25). -/
  fsm        : Fsm
  /-- BODY_CNT (R25, R27). -/
  bodyCnt    : BodyCount
  /-- PKT_IDX (R29). -/
  pktIdx     : PktIndex
  /-- PKT_BUF (R28). -/
  pktBuf     : PktBuf
  /-- ERR_COUNT (R30), in the low ERR_W bits. -/
  errCount   : Word
  /-- LAST_SPEED (R31). -/
  lastSpeed  : Half
  /-- WORK (R34). -/
  work       : ScanArray
  /-- SEEN (R37). -/
  seen       : FillRecord
  /-- PUB (R35). -/
  pub        : ScanArray
  /-- PUB_VALID (R33). -/
  pubValid   : Bool
  /-- REQ_PENDING (R39). -/
  reqPending : Bool
  /-- RESP (R36). -/
  resp       : ScanArray
  /-- The model's own: the implementation parameters (R11). No step writes them. -/
  cfg        : Config
  /-- The model's own: the event words the environment still offers, first one first (R98, R326). -/
  events     : List EventWord
  /-- The model's own: the outputs emitted so far, oldest first (R14, R326). -/
  trace      : List Output
deriving DecidableEq, Repr

/-- Where `step` has no step. No instruction raises either; both are safe (the block keeps its state, log 3). -/
inductive Fault where
  /-- No event is offered: the run has ended, or the byte source starves the parser (R162, R326). Raised by `step`. -/
  | starved
  /-- Only bytes are offered and RUN is not RUNNING: a stalled run (R240, R326). Raised by `step`. -/
  | stalled
deriving DecidableEq, Repr

/-- Why an event has no step. -/
inductive Refusal where
  /-- An instruction that has no meaning yet; `exec` alone raises it, and no arm does. Safe. -/
  | notModelled (mnemonic : String)
  /-- An illegal event word (R99). Raised by `step`. Safe: the state is unchanged. -/
  | illegalEvent (why : Reject)
  /-- A framer operation while RUN is not RUNNING: a BYTE event has no step (R240). Raised by the seven framer
  operations; `step` never runs one there. Safe. -/
  | notReady
  /-- A framer operation that FSM, BODY_CNT and the byte do not select (R101). Raised by the seven framer operations;
  `step` never runs one there. Safe. -/
  | notSelected
  /-- RX_TIMEOUT with RX_TIMEOUT_EN false: the event does not exist (R243). Raised by RX_TIMEOUT. Safe. -/
  | rxTimeoutAbsent
  /-- REQ_TIMEOUT with REQ_TIMEOUT_EN false: the event does not exist (R249). Raised by REQ_TIMEOUT. Safe. -/
  | reqTimeoutAbsent
deriving DecidableEq, Repr

/-- A scan array of reset slot words (R310). -/
def zeroScan : ScanArray := Vector.replicate 360 0#32

/-- The block right after reset, which is also the power-on state (R310, R311). The spec gives every field of its
record a value; the parameters are the baseline of R11 (log 4), no event is offered yet (log 1) and nothing has been
output (log 6). -/
def State.reset : State :=
  { run := .idle
    fsm := .seekStart
    bodyCnt := 0
    pktIdx := 0
    pktBuf := Vector.replicate 22 0x00#8
    errCount := 0
    lastSpeed := 0
    work := zeroScan
    seen := Vector.replicate 90 false
    pub := zeroScan
    pubValid := false
    reqPending := false
    resp := zeroScan
    cfg := Config.baseline
    events := []
    trace := [] }

end Sys2Proof.Machine
end

