-- ==== Sys2Proof/Machine/Operands.lean ====
section
/-! DEFINITION. Operand forms: byte order (00_scope.md R14; 20_memory.md R65, R66), the fields of a packet
(30_encoding.md R90 to R97), the reading decoder (42_reading_decoder.md R190), the rotation speed (R195) and the angle
map (43_scan_assembler.md R211). -/

namespace Sys2Proof.Machine

/-! ### Byte order -/

/-- `le16(b0, b1)`: b0 the low byte (R14). -/
def le16 (b0 b1 : Byte) : Half := b0.setWidth 16 ||| (b1.setWidth 16 <<< 8)

/-- `le32(b0, b1, b2, b3)`: b0 the low byte (R14). -/
def le32 (b0 b1 b2 b3 : Byte) : Word :=
  b0.setWidth 32 ||| (b1.setWidth 32 <<< 8) ||| (b2.setWidth 32 <<< 16) ||| (b3.setWidth 32 <<< 24)

/-- Byte lane j of a host word: bits [8j+7:8j] (R66). -/
def byteLane (w : Word) (j : Fin 4) : Byte := w.extractLsb' (8 * j.val) 8

/-! ### The reading decoder -/

/-- `DecodeReading(b0, b1, b2, b3)`: the slot word of a reading block (R190, R95). -/
def decodeReading (b0 b1 b2 b3 : Byte) : Word := le32 b0 b1 b2 b3

/-- The decoded record of a slot word (R190): distance [13:0], weak [14], invalid [15], strength [31:16]. -/
def readingOf (w : Word) : Reading :=
  { distanceMm := w.extractLsb' 0 14
    weakSignalFlag := w.getLsbD 14
    invalidFlag := w.getLsbD 15
    signalStrength := w.extractLsb' 16 16 }

/-- The slot word of a record: the inverse of `readingOf` (R95: one-to-one). -/
def slotOf (r : Reading) : Word :=
  r.signalStrength.setWidth 32 <<< 16 ||| (BitVec.ofBool r.invalidFlag).setWidth 32 <<< 15 |||
    (BitVec.ofBool r.weakSignalFlag).setWidth 32 <<< 14 ||| r.distanceMm.setWidth 32

/-- The four bytes of a reading block with this content (R105 `RD`). -/
def readingBytes (r : Reading) : List Byte :=
  [r.distanceMm.extractLsb' 0 8,
   (BitVec.ofBool r.invalidFlag).setWidth 8 <<< 7 ||| (BitVec.ofBool r.weakSignalFlag).setWidth 8 <<< 6 |||
     (r.distanceMm.extractLsb' 8 6).setWidth 8,
   r.signalStrength.extractLsb' 0 8,
   r.signalStrength.extractLsb' 8 8]

/-- The consumer's scan: the readings decoded from the snapshot, angle a from word a (R251). -/
def readingsOf (snapshot : ScanArray) : Vector Reading 360 := snapshot.map readingOf

/-! ### Fields of the captured packet -/

/-- The four bytes of lane k: packet bytes 4+4k to 7+4k, decoded (R197). -/
def laneWord (buf : PktBuf) (k : Lane) : Word :=
  decodeReading buf[4 + 4 * k.val] buf[5 + 4 * k.val] buf[6 + 4 * k.val] buf[7 + 4 * k.val]

/-- The raw rotation speed (R96, R195). -/
def speedRaw (buf : PktBuf) : Half := le16 buf[2] buf[3]

/-- The received checksum (R96, R97). -/
def receivedChk (buf : PktBuf) : Half := le16 buf[20] buf[21]

/-- `(b - 0xA0)`, the packet index of an index byte (R92, R153). For an index byte the value is 0 to 89 and the
reduction modulo 90 has no effect. -/
def packetIndex (b : Byte) : PktIndex := Fin.ofNat 90 (b.toNat - idxLo.toNat)

/-- The angle of lane k of packet i: 4*i + k (R211). -/
def angleOf (i : PktIndex) (k : Lane) : Angle := ⟨i.val * 4 + k.val, by omega⟩

/-- The packet byte number of a read-body byte: 2 + BODY_CNT (R25, R156). -/
def bodyByte (cnt : BodyCount) : PktByte := ⟨2 + cnt.val, by omega⟩

/-! ### The meaning of the rotation speed (R93, R195) -/

/-- The integer RPM, raw bits [15:6]. -/
def rpmWhole (raw : Half) : BitVec 10 := raw.extractLsb' 6 10
/-- The fraction in units of 1/64 RPM, raw bits [5:0]. -/
def rpmFraction (raw : Half) : BitVec 6 := raw.extractLsb' 0 6
/-- RPM = raw / 64, exactly. The block itself computes no such value (R195). -/
def rpm (raw : Half) : Rat := (raw.toNat : Rat) / 64

end Sys2Proof.Machine
end

