-- ==== Sys2Proof/Machine/Checksum.lean ====
section
/-! DEFINITION. The Checksum Unit (40_checksum.md): a pure function of the 20 checksummed bytes, and the incremental
form R138 allows. -/

namespace Sys2Proof.Machine

/-- The little-endian 16-bit words of a byte sequence, the even-numbered byte low (R130). -/
def wordsOf : List Byte → List Half
  | b0 :: b1 :: rest => le16 b0 b1 :: wordsOf rest
  | _ => []

/-- One step of the fold: shift, then add, modulo 2^32 (R131). -/
def foldStep (acc : Word) (w : Half) : Word := (acc <<< 1) + w.setWidth 32

/-- The accumulator after the words, first word first, from 0 (R131). -/
def foldWords (ws : List Half) : Word := ws.foldl foldStep 0

/-- The final fold: low 15 bits plus the remaining high bits, masked to 15 bits once (R131, R134). -/
def finalFold (acc : Word) : Chk := ((acc &&& 0x7FFF#32) + (acc >>> 15)).extractLsb' 0 15

/-- `checksum(c)` (R131). -/
def checksum (c : List Byte) : Chk := finalFold (foldWords (wordsOf c))

/-- The checksummed bytes of a captured packet: packet bytes 0 to 19 (R17, R130). -/
def checksummedBytes (buf : PktBuf) : List Byte := buf.toList.take chkBodyLen

/-- The computed checksum of a captured packet (R157). -/
def computedChk (buf : PktBuf) : Chk := checksum (checksummedBytes buf)

/-- Validation: a 16-bit comparison with the computed value zero-extended (R97, R136). -/
def packetPasses (buf : PktBuf) : Bool := receivedChk buf == (computedChk buf).setWidth 16

/-! ### The incremental form (R138) -/

/-- The accumulator and, after an even number of bytes, no held byte; after an odd number, the low byte of the word
being completed. -/
abbrev PartialFold := Word × Option Byte

/-- One arriving byte: the accumulator changes at each odd-numbered byte, with the word just completed (R138). -/
def incrementalStep : PartialFold → Byte → PartialFold
  | (acc, none), b => (acc, some b)
  | (acc, some low), b => (foldStep acc (le16 low b), none)

/-- The checksum of the bytes folded as they arrive. -/
def incrementalChecksum (c : List Byte) : Chk := finalFold (c.foldl incrementalStep (0, none)).1

end Sys2Proof.Machine
end

