-- ==== Sys2Proof/Machine/Flags.lean ====
section
/-! DEFINITION. Flags and codes. The block has no arithmetic flags (10_state.md R32): here are the codes of RUN and FSM
(R21), the STATUS word (R33), the two flag bits of a slot word (R95, R96), the codes of the conditions
(60_exceptions.md R286) and the completeness test of the fill record (R210). -/

namespace Sys2Proof.Machine

/-- The 2-bit code of RUN (R21, R22). -/
def runCode : RunState → BitVec 2
  | .idle => 0#2
  | .running => 1#2
  | .stopped => 2#2
  | .disconnected => 3#2

/-- The 2-bit code of FSM (R21). -/
def fsmCode : Fsm → BitVec 2
  | .seekStart => 0#2
  | .seekIndex => 1#2
  | .readBody => 2#2

/-- STATUS (R33): RUN [1:0], FSM [3:2], REQ_PENDING [4], PUB_VALID [5], FILL_GUARD [6], RX_TIMEOUT_EN [7],
REQ_TIMEOUT_EN [8], reserved bits 0. -/
def statusWord (s : State) : Word :=
  0#23 ++ BitVec.ofBool s.cfg.reqTimeoutEn ++ BitVec.ofBool s.cfg.rxTimeoutEn ++ BitVec.ofBool s.cfg.fillGuard ++
    BitVec.ofBool s.pubValid ++ BitVec.ofBool s.reqPending ++ fsmCode s.fsm ++ runCode s.run

/-- invalid_flag of a reading block's byte b1 (R94): `(b1 & 0x80) != 0`. -/
def invalidFlagOf (b1 : Byte) : Bool := (b1 &&& 0x80#8) != 0#8
/-- weak_signal_flag of a reading block's byte b1 (R94): `(b1 & 0x40) != 0`. -/
def weakFlagOf (b1 : Byte) : Bool := (b1 &&& 0x40#8) != 0#8

/-- The code of a condition (R286). -/
def conditionCode : Condition → Nat
  | .desync _ => 1
  | .checksumMismatch _ _ _ => 2
  | .sensorError => 3
  | .disconnect => 4
  | .resync _ => 5

/-- The code of what one step raised: 0 when it raised nothing (R286). -/
def stepCode : List Output → Nat
  | [] => 0
  | .cond c :: _ => conditionCode c
  | .resp _ :: rest => stepCode rest
  | .data _ :: rest => stepCode rest

/-- Every packet index has passed its checksum since reset (R210, R217). -/
def allSeen (seen : FillRecord) : Bool := seen.all id

/-- `(ERR_COUNT + 1) mod 2^ERR_W` (R30, R157). -/
def bumpErr (cfg : Config) (e : Word) : Word := BitVec.ofNat 32 ((e.toNat + 1) % 2 ^ cfg.errW)

/-- The ERR_COUNT register: bits [ERR_W-1:0], higher bits 0 (R33). -/
def errCountReg (cfg : Config) (e : Word) : Word := BitVec.ofNat 32 (e.toNat % 2 ^ cfg.errW)

end Sys2Proof.Machine
end

