-- ==== Sys2Proof/Machine/HostMap.lean ====
section
/-! DEFINITION. The host read map (20_memory.md R62, R63): `MemRead`. There is no host write (R64). -/

namespace Sys2Proof.Machine

/-- Word number i of a scan array; past the last angle there is no slot and the map reads 0 (R62). -/
def scanWord (a : ScanArray) (i : Nat) : Word := if h : i < 360 then a[i] else 0

/-- The address with bits [1:0] ignored: `addr & 0xFFFFFC` (R63). -/
def alignAddr (addr : HostAddr) : HostAddr := addr &&& 0xFFFFFC#24

/-- The word at an aligned offset (R62): STATUS, ERR_COUNT, LAST_SPEED, the RESP and PUB windows, 0 elsewhere. -/
def mapWord (s : State) (a : Nat) : Word :=
  if a = 0x000 then statusWord s
  else if a = 0x004 then errCountReg s.cfg s.errCount
  else if a = 0x008 then s.lastSpeed.setWidth 32
  else if 0x400 ≤ a ∧ a ≤ 0x99C then scanWord s.resp ((a - 0x400) / 4)
  else if 0x1000 ≤ a ∧ a ≤ 0x159C then scanWord s.pub ((a - 0x1000) / 4)
  else 0

/-- `MemRead(addr & 0xFFFFFC, 4)` (R63, R250). -/
def memRead (s : State) (addr : HostAddr) : Word := mapWord s (alignAddr addr).toNat

end Sys2Proof.Machine
end

