-- ==== Sys2Proof/Machine/Ops.lean ====
section
/-! DEFINITION. The named operations on the state that the meanings share. The block takes no exception and has no
return from one (60_exceptions.md R280, R291, R292): raising a condition is an entry in the output trace, and recovery
is `discardPartial`, the one shared operation that drops a partial packet and goes back to SEEK_START. -/

namespace Sys2Proof.Machine

/-! ### Outputs (R14) -/

/-- `raise Cond(info)`: the condition's label goes to the trace. -/
def State.raise (s : State) (c : Condition) : State := { s with trace := s.trace ++ [.cond c] }
/-- `emit Resp(kind)`: the outstanding request's result goes to the trace. -/
def State.emit (s : State) (r : Response) : State := { s with trace := s.trace ++ [.resp r] }
/-- `return data to the consumer` (R250). -/
def State.reply (s : State) (w : Word) : State := { s with trace := s.trace ++ [.data w] }

/-! ### The sequencer and the capture buffer -/

/-- `PKT_BUF[i] <- b`. -/
def State.putByte (s : State) (i : PktByte) (b : Byte) : State := { s with pktBuf := s.pktBuf.set i.val b }

/-- `fsm <- X`. -/
def State.goto (s : State) (f : Fsm) : State := { s with fsm := f }

/-- The number of the packet byte the next accepted byte is taken to be (R25). -/
def State.packetByte (s : State) : Nat :=
  match s.fsm with
  | .seekStart => 0
  | .seekIndex => 1
  | .readBody => 2 + s.bodyCnt.val

/-- Back to packet byte 0: FSM to SEEK_START, BODY_CNT to 0. The bytes captured so far are dropped (R157, R242, R243,
R245). -/
def State.discardPartial (s : State) : State := { s with fsm := .seekStart, bodyCnt := 0 }

/-! ### The scan assembler and publication -/

/-- `SlotWrite(WORK, PKT_IDX*4 + k, DecodeReading(lane k))` (R210, R211, R212). -/
def State.writeLane (s : State) (k : Lane) : State :=
  { s with work := s.work.set (angleOf s.pktIdx k).val (laneWord s.pktBuf k) }

/-- The four slot writes of a packet, in order (R210). -/
def State.writeLanes (s : State) : State := (((s.writeLane 0).writeLane 1).writeLane 2).writeLane 3

/-- `SEEN[PKT_IDX] <- 1`, when FILL_GUARD (R210, R37). -/
def State.markSeen (s : State) : State :=
  if s.cfg.fillGuard then { s with seen := s.seen.set s.pktIdx.val true } else s

/-- `PUB <- WORK`, `PUB_VALID <- 1` (R214). -/
def State.copyOut (s : State) : State := { s with pub := s.work, pubValid := true }

/-- The hand-off to a pending request: `RESP <- PUB`, `REQ_PENDING <- 0`, `emit Resp(SCAN)` (R214). -/
def State.handOff (s : State) : State :=
  if s.reqPending then ({ s with resp := s.pub, reqPending := false }).emit (.scan s.pub) else s

/-- `Publish()` (R214). -/
def State.publish (s : State) : State := s.copyOut.handOff

/-- The revolution detector: packet 89, and with FILL_GUARD a full fill record (R210, R213, R217). -/
def State.revolutionDone (s : State) : Bool := s.pktIdx == lastIdx && (!s.cfg.fillGuard || allSeen s.seen)

/-- `LAST_SPEED`, the four slots and the fill record of a passing packet (R210, up to the publication test). -/
def State.store (s : State) : State := ({ s with lastSpeed := speedRaw s.pktBuf }).writeLanes.markSeen

/-- `Assemble()` (R210). -/
def State.assemble (s : State) : State := if s.store.revolutionDone then s.store.publish else s.store

/-- The mismatch branch of RB_LAST: count, and raise ChecksumMismatch (R157, R282). -/
def State.countMismatch (s : State) : State :=
  ({ s with errCount := bumpErr s.cfg s.errCount }).raise
    (.checksumMismatch s.pktIdx (receivedChk s.pktBuf) (computedChk s.pktBuf))

/-- RB_LAST's test and its two branches (R157). -/
def State.validate (s : State) : State := if packetPasses s.pktBuf then s.assemble else s.countMismatch

/-! ### Requests -/

/-- Complete a pending request without a scan: `REQ_PENDING <- 0`, `emit Resp(kind)`; nothing without a request
(R245, R249, R310). -/
def State.completeRequest (s : State) (r : Response) : State :=
  if s.reqPending then ({ s with reqPending := false }).emit r else s

/-! ### Reset -/

/-- The assignments of R310: every field of the record of R21. The parameters, the offered events and the outputs are
not the block's record and stay. -/
def State.clear (s : State) : State :=
  { s with
    run := .idle, fsm := .seekStart, bodyCnt := 0, pktIdx := 0, pktBuf := Vector.replicate 22 0x00#8
    errCount := 0, lastSpeed := 0, work := zeroScan, seen := Vector.replicate 90 false
    pub := zeroScan, pubValid := false, reqPending := false, resp := zeroScan }

/-! ### Enabling a framer operation -/

/-- A framer operation has a step only when RUN is RUNNING (R240) and FSM, BODY_CNT and the byte select it (R101);
otherwise it has none, and says which (log 9). -/
def State.ifSelected (s : State) (selected : Bool) (t : State) : Host.Outcome State Fault Refusal :=
  if s.run = .running then if selected then .next t else .refused .notSelected else .refused .notReady

end Sys2Proof.Machine
end

