-- ==== Sys2Proof/Machine/ByteSource.lean ====
section
/-! DEFINITION. The byte source's events other than bytes (44_host_interface.md section 1). -/

namespace Sys2Proof.Machine

/-- RX_TIMEOUT (R243): present only when RX_TIMEOUT_EN; a partial packet is discarded and not counted. -/
def execRxTimeout (s : State) : Host.Outcome State Fault Refusal :=
  if s.cfg.rxTimeoutEn then
    if s.run = .running ∧ s.fsm ≠ .seekStart then .next (s.discardPartial.raise (.desync .timeout)) else .next s
  else .refused .rxTimeoutAbsent

/-- RX_DISCONNECT (R242): an effect in IDLE and RUNNING only. -/
def execRxDisconnect (s : State) : Host.Outcome State Fault Refusal :=
  if s.run = .idle ∨ s.run = .running then
    .next (({ s with run := .disconnected }).discardPartial.raise .disconnect)
  else .next s

end Sys2Proof.Machine
end

