-- ==== Sys2Proof/Machine/Consumer.lean ====
section
/-! DEFINITION. The consumer's events (44_host_interface.md section 3). -/

namespace Sys2Proof.Machine

/-- HOST_REQ (R247): answered at once in STOPPED; otherwise it waits, and a second one changes nothing. -/
def execHostReq (s : State) : Host.Outcome State Fault Refusal :=
  if s.run = .stopped then .next (s.emit .shutdown)
  else if s.reqPending then .next s
  else .next { s with reqPending := true }

/-- REQ_TIMEOUT (R249): present only when REQ_TIMEOUT_EN; a pending request completes without a scan. -/
def execReqTimeout (s : State) : Host.Outcome State Fault Refusal :=
  if s.cfg.reqTimeoutEn then .next (s.completeRequest .timeout) else .refused .reqTimeoutAbsent

/-- HOST_READ (R250): the word is returned, the state is not changed. -/
def execHostRead (addr : HostAddr) (s : State) : Host.Outcome State Fault Refusal :=
  .next (s.reply (memRead s addr))

end Sys2Proof.Machine
end

