-- ==== Sys2Proof/Machine/Framer.lean ====
section
/-! DEFINITION. The seven framer operations (41_framer.md). -/

namespace Sys2Proof.Machine

/-- SS_SYNC (R151). -/
def execSsSync (s : State) : Host.Outcome State Fault Refusal :=
  s.ifSelected (s.fsm == .seekStart) ((s.putByte 0 sentinel).goto .seekIndex)

/-- SS_DROP (R152): the byte is discarded. -/
def execSsDrop (b : Byte) (s : State) : Host.Outcome State Fault Refusal :=
  s.ifSelected (s.fsm == .seekStart && b != sentinel) (s.raise (.desync (.byte b)))

/-- SI_INDEX (R153). -/
def execSiIndex (b : Byte) (s : State) : Host.Outcome State Fault Refusal :=
  s.ifSelected (s.fsm == .seekIndex && isIndexByte b)
    ({ s.putByte 1 b with pktIdx := packetIndex b, bodyCnt := 0 }.goto .readBody)

/-- SI_RESYNC (R154): the new start byte; FSM stays. -/
def execSiResync (s : State) : Host.Outcome State Fault Refusal :=
  s.ifSelected (s.fsm == .seekIndex) ((s.putByte 0 sentinel).raise (.resync sentinel))

/-- SI_DESYNC (R155): the byte is discarded, not re-examined. -/
def execSiDesync (b : Byte) (s : State) : Host.Outcome State Fault Refusal :=
  s.ifSelected (s.fsm == .seekIndex && (!isIndexByte b && b != sentinel))
    ((s.goto .seekStart).raise (.desync (.byte b)))

/-- RB_BYTE (R156): packet bytes 2 to 20. BODY_CNT is below 19 here, so the increment never wraps. -/
def execRbByte (b : Byte) (s : State) : Host.Outcome State Fault Refusal :=
  s.ifSelected (s.fsm == .readBody && decide (s.bodyCnt.val < rbLen - 1))
    { s.putByte (bodyByte s.bodyCnt) b with bodyCnt := s.bodyCnt + 1 }

/-- RB_LAST (R157): packet byte 21, the checksum test, and back to SEEK_START. -/
def execRbLast (b : Byte) (s : State) : Host.Outcome State Fault Refusal :=
  s.ifSelected (s.fsm == .readBody && decide (s.bodyCnt.val = rbLen - 1))
    ((s.putByte 21 b).validate.discardPartial)

end Sys2Proof.Machine
end

