-- ==== Sys2Proof/Machine/Lifecycle.lean ====
section
/-! DEFINITION. The lifecycle controller's events (44_host_interface.md section 2) and the platform's RESET
(70_reset_and_hazards.md R310). -/

namespace Sys2Proof.Machine

/-- CTL_START (R244): an effect in IDLE only. -/
def execCtlStart (s : State) : Host.Outcome State Fault Refusal :=
  if s.run = .idle then .next { s with run := .running } else .next s

/-- CTL_STOP (R245): no effect in STOPPED; elsewhere a partial packet is discarded and a pending request completed. -/
def execCtlStop (s : State) : Host.Outcome State Fault Refusal :=
  if s.run = .stopped then .next s
  else .next (({ s with run := .stopped }).discardPartial.completeRequest .shutdown)

/-- RESET (R310): a pending request completes first; accepted in every RUN state. -/
def execReset (s : State) : Host.Outcome State Fault Refusal :=
  .next (s.completeRequest .shutdown).clear

end Sys2Proof.Machine
end

