-- ==== Sys2Proof/Machine/Dispatch.lean ====
section
/-! DEFINITION. One arm per constructor of `Instr`: each calls its meaning. -/

namespace Sys2Proof.Machine

def exec (i : Instr) (s : State) : Host.Outcome State Fault Refusal :=
  match i with
  | .ssSync => Sys2Proof.Machine.execSsSync s
  | .ssDrop b => Sys2Proof.Machine.execSsDrop b s
  | .siIndex b => Sys2Proof.Machine.execSiIndex b s
  | .siResync => Sys2Proof.Machine.execSiResync s
  | .siDesync b => Sys2Proof.Machine.execSiDesync b s
  | .rbByte b => Sys2Proof.Machine.execRbByte b s
  | .rbLast b => Sys2Proof.Machine.execRbLast b s
  | .rxTimeout => Sys2Proof.Machine.execRxTimeout s
  | .rxDisconnect => Sys2Proof.Machine.execRxDisconnect s
  | .ctlStart => Sys2Proof.Machine.execCtlStart s
  | .ctlStop => Sys2Proof.Machine.execCtlStop s
  | .hostReq => Sys2Proof.Machine.execHostReq s
  | .reqTimeout => Sys2Proof.Machine.execReqTimeout s
  | .hostRead addr => Sys2Proof.Machine.execHostRead addr s
  | .reset => Sys2Proof.Machine.execReset s

end Sys2Proof.Machine
end

