-- ==== Sys2Proof/Machine/Fetch.lean ====
section
/-! DEFINITION. Which of the offered events the next step takes (44_host_interface.md R240, R256;
70_reset_and_hazards.md R326), and how the host's probe offers one. -/

namespace Sys2Proof.Machine

/-- The next event of a list of offered words, and the words that stay offered. A block that is not ready takes no
byte: a BYTE word stays with the byte source, in its place, and the first other word is taken (R240, R326; DEDUCED,
log 2). -/
def takeEvent (ready : Bool) : List EventWord → Option (EventWord × List EventWord)
  | [] => none
  | w :: rest =>
    if !ready && isByteEvent w then (takeEvent ready rest).map fun p => (p.1, w :: p.2) else some (w, rest)

/-- `ready = (RUN == RUNNING)` (R240). -/
def State.ready (s : State) : Bool := s.run == .running

/-- The event the next step takes, and the state with that word taken from the offered ones. -/
def State.nextEvent (s : State) : Option (EventWord × State) :=
  (takeEvent s.ready s.events).map fun p => (p.1, { s with events := p.2 })

/-- Why there is no event to take (log 3): nothing is offered, or only bytes while not ready (R326). -/
def State.noEvent (s : State) : Fault := if s.events.isEmpty then .starved else .stalled

/-- The instruction a word is for this block now (R98 to R101). -/
def State.decodeEvent (s : State) (w : EventWord) : Except Reject Instr := decode s.cfg s.fsm s.bodyCnt w

/-- The state with what a word needs to be taken: RUNNING for a BYTE event (R240), its parameter for an optional
timeout (R99). Nothing else changes (log 8). -/
def State.enableFor (s : State) (w : EventWord) : State :=
  if isByteEvent w then { s with run := .running }
  else if eventClass w = classRxTimeout then { s with cfg := { s.cfg with rxTimeoutEn := true } }
  else if eventClass w = classReqTimeout then { s with cfg := { s.cfg with reqTimeoutEn := true } }
  else s

/-- The state with a word offered first, with what it needs. -/
def State.offerFirst (s : State) (w : EventWord) : State := { s.enableFor w with events := w :: s.events }

end Sys2Proof.Machine
end

