-- ==== Sys2Proof/Machine/Step.lean ====
section
/-! DEFINITION. One step of the block: take one event, decode it at the parser's position, run it
(00_scope.md R3; 20_memory.md R74). -/

namespace Sys2Proof.Machine

/-- One event is one atomic step (R3, R70). An illegal word has no step and is refused by name (R99); where no event
can be taken there is no step (R162, R326). -/
def step (s : State) : Host.Outcome State Fault Refusal :=
  match s.nextEvent with
  | none => .fault s.noEvent
  | some (w, t) =>
    match t.decodeEvent w with
    | .error why => .refused (.illegalEvent why)
    | .ok i => Sys2Proof.Machine.exec i t

/-- The host's probe: the state that offers this table word first, with what the word needs to be taken (log 8). -/
def State.withFetchWord (s : State) (nbits w : Nat) : State := s.offerFirst (tableWord nbits w)

end Sys2Proof.Machine
end

