-- ==== Sys2Proof/Machine/Agents.lean ====
section
/-! DEFINITION. The agents outside the block and the events each may send (44_host_interface.md R256;
60_exceptions.md R297). -/

namespace Sys2Proof.Machine

/-- The four external agents (R297). -/
inductive Agent where
  | byteSource | lifecycle | consumer | platform
deriving DecidableEq, Repr

/-- The agent that sends an event (R98, R256). -/
def agentOf : Instr → Agent
  | .ssSync => .byteSource
  | .ssDrop _ => .byteSource
  | .siIndex _ => .byteSource
  | .siResync => .byteSource
  | .siDesync _ => .byteSource
  | .rbByte _ => .byteSource
  | .rbLast _ => .byteSource
  | .rxTimeout => .byteSource
  | .rxDisconnect => .byteSource
  | .ctlStart => .lifecycle
  | .ctlStop => .lifecycle
  | .hostReq => .consumer
  | .reqTimeout => .consumer
  | .hostRead _ => .consumer
  | .reset => .platform

end Sys2Proof.Machine
end

