-- ==== Sys2Proof/Machine/Stimulus.lean ====
section
/-! DEFINITION. The stimulus notation (30_encoding.md R104, R105): one line stands for the event words it expands to. -/

namespace Sys2Proof.Machine

/-- The first 20 bytes of `PACKET i, v, rd0, rd1, rd2, rd3` (R105). -/
def packetHead (i : PktIndex) (v : Half) (rd0 rd1 rd2 rd3 : Reading) : List Byte :=
  [sentinel, idxLo + BitVec.ofNat 8 i.val, v.extractLsb' 0 8, v.extractLsb' 8 8] ++
    readingBytes rd0 ++ readingBytes rd1 ++ readingBytes rd2 ++ readingBytes rd3

/-- `PACKET_CHK`: the checksum bytes given as c (R105). -/
def packetChkBytes (i : PktIndex) (v : Half) (rd0 rd1 rd2 rd3 : Reading) (c : Half) : List Byte :=
  packetHead i v rd0 rd1 rd2 rd3 ++ [c.extractLsb' 0 8, c.extractLsb' 8 8]

/-- `PACKET`: the checksum bytes of R131 over the first 20 bytes (R105). -/
def packetBytes (i : PktIndex) (v : Half) (rd0 rd1 rd2 rd3 : Reading) : List Byte :=
  packetChkBytes i v rd0 rd1 rd2 rd3 ((checksum (packetHead i v rd0 rd1 rd2 rd3)).setWidth 16)

/-- One line of the notation. -/
inductive Line where
  | byte (b : Byte)
  | rxTimeout
  | rxDisconnect
  | start
  | stop
  | req
  | reqTimeout
  | read (addr : HostAddr)
  | reset
  | bytes (bs : List Byte)
  | packet (i : PktIndex) (v : Half) (rd0 rd1 rd2 rd3 : Reading)
  | packetChk (i : PktIndex) (v : Half) (rd0 rd1 rd2 rd3 : Reading) (c : Half)
deriving DecidableEq, Repr

/-- The event words of a line (R104, R105). -/
def lineWords : Line → List EventWord
  | .byte b => [byteWord b]
  | .rxTimeout => [0x01000000#32]
  | .rxDisconnect => [0x02000000#32]
  | .start => [0x10000000#32]
  | .stop => [0x11000000#32]
  | .req => [0x20000000#32]
  | .reqTimeout => [0x21000000#32]
  | .read addr => [eventWord 0x30#8 addr]
  | .reset => [0xF0000000#32]
  | .bytes bs => bs.map byteWord
  | .packet i v rd0 rd1 rd2 rd3 => (packetBytes i v rd0 rd1 rd2 rd3).map byteWord
  | .packetChk i v rd0 rd1 rd2 rd3 c => (packetChkBytes i v rd0 rd1 rd2 rd3 c).map byteWord

/-- The event words of a stimulus file. -/
def stimulus (lines : List Line) : List EventWord := lines.flatMap lineWords

end Sys2Proof.Machine
end

