-- ==== Sys2Proof/Machine/Run.lean ====
section
/-! DEFINITION. A run and its observation (70_reset_and_hazards.md R326). -/

namespace Sys2Proof.Machine

/-- The end of a run: the state after the last step, and whether any word was refused (R326). The outputs are the
state's trace; the offered words that are left are its events. -/
structure RunEnd where
  state   : State
  refused : Bool
deriving DecidableEq, Repr

/-- The state without the word that has just been refused: no step, no other change (R99). -/
def State.dropEvent (s : State) : State :=
  match s.nextEvent with
  | none => s
  | some (_, t) => t

/-- Steps until no event can be taken, at most `fuel` of them. A refused word is passed and sets the mark for the rest
of the run (R326; log 7). -/
def runEvents : Nat → State → Bool → RunEnd
  | 0, s, mark => { state := s, refused := mark }
  | fuel + 1, s, mark =>
    match step s with
    | .next t => runEvents fuel t mark
    | .refused _ => runEvents fuel s.dropEvent true
    | .fault _ => { state := s, refused := mark }

/-- The run of a sequence of event words from a launch state (R326). Each word is taken at most once, so as many steps
as there are words are enough. -/
def observe (s : State) (ws : List EventWord) : RunEnd :=
  runEvents (s.events ++ ws).length { s with events := s.events ++ ws } false

/-- A run that still offers a byte at its end is a stalled run, not a finished one (R326). -/
def RunEnd.stalled (r : RunEnd) : Bool := !r.state.events.isEmpty

end Sys2Proof.Machine
end

