-- ==== Sys2Proof/Safety.lean ====
section
/-! DEFINITION. What claims about the block are stated in: the invariant of its state (10_state.md R23, R24, R27, R30,
R37; 20_memory.md R76; 43_scan_assembler.md R217) and the parts of the state that belong to the producer side. -/

namespace Sys2Proof.Machine

/-- What every reachable state satisfies. Each clause says what it rests on: "D n" is a choice the spec marks as its own
(spec/92_eei_decisions.md), "log n" is notes/assumptions/n.md. -/
structure State.Inv (s : State) : Prop where
  /-- R23, an inference the spec marks as its own: outside RUNNING the parser is at (SEEK_START, 0). -/
  parserIdle : s.run ≠ .running → s.fsm = .seekStart ∧ s.bodyCnt = 0
  /-- R24, an inference the spec marks as its own: in STOPPED no request is outstanding. -/
  stoppedAnswered : s.run = .stopped → s.reqPending = false
  /-- R27, an inference the spec marks as its own: BODY_CNT is 0 outside READ_BODY. -/
  countOnlyInBody : s.fsm ≠ .readBody → s.bodyCnt = 0
  /-- R28, an inference the spec marks as its own: after SEEK_START, packet byte 0 is the sentinel. -/
  sentinelCaptured : s.fsm ≠ .seekStart → s.pktBuf[0] = sentinel
  /-- R28, an inference the spec marks as its own, and R29: in READ_BODY, packet byte 1 is an index
  byte and PKT_IDX is its index. -/
  indexCaptured : s.fsm = .readBody → isIndexByte s.pktBuf[1] = true ∧ s.pktIdx.val + 0xA0 = s.pktBuf[1].toNat
  /-- ERR_W is a legal register width: the model's reading of R11 and R33 (DEDUCED, log 5). -/
  configLegal : s.cfg.legal = true
  /-- R30 (D5): ERR_COUNT is below 2^ERR_W. -/
  errCountFits : s.errCount.toNat < 2 ^ s.cfg.errW
  /-- R37 (D6, D25): with FILL_GUARD false SEEN stays 0. -/
  seenUnused : s.cfg.fillGuard = false → ∀ i : PktIndex, s.seen[i] = false
  /-- R76, an inference the spec marks as its own: before the first publication PUB and RESP are all zero. -/
  unpublishedZero : s.pubValid = false → s.pub = zeroScan ∧ s.resp = zeroScan
  /-- R217 (D6, D25): with FILL_GUARD true nothing is published before every index has been seen. -/
  publishedFilled : s.cfg.fillGuard = true → s.pubValid = true → ∀ i : PktIndex, s.seen[i] = true
  /-- R217 (D6, D25): with FILL_GUARD true the slots of an index not yet seen are still the reset word. -/
  unseenZero : s.cfg.fillGuard = true → ∀ i : PktIndex, s.seen[i] = false → ∀ k : Lane, s.work[angleOf i k] = 0

/-- The producer side and what it publishes (R78, R297): everything but the request, its snapshot, the offered events
and the outputs. -/
def SameProducer (s t : State) : Prop :=
  s.run = t.run ∧ s.fsm = t.fsm ∧ s.bodyCnt = t.bodyCnt ∧ s.pktIdx = t.pktIdx ∧ s.pktBuf = t.pktBuf ∧
  s.errCount = t.errCount ∧ s.lastSpeed = t.lastSpeed ∧ s.work = t.work ∧ s.seen = t.seen ∧ s.pub = t.pub ∧
  s.pubValid = t.pubValid ∧ s.cfg = t.cfg

/-- A step that stops is one of these and no other: the run has no event to take, or the word is illegal. -/
def StopsOnlyAsAllowed (o : Host.Outcome State Fault Refusal) : Prop :=
  (∃ t, o = .next t) ∨ (∃ f, o = .fault f) ∨ (∃ why, o = .refused (.illegalEvent why))

end Sys2Proof.Machine
end

