-- ==== Sys2Proof/Certificates/Slice0/Obligations.lean ====
section
/-! DEFINITION. The statements about the block, one definition each. "Log n" is notes/assumptions/n.md; "D n" is a
row of spec/92_eei_decisions.md, a choice the spec marks as its own. -/

open Sys2Proof Sys2Proof.Machine

/-! ### Framer operations: result, frame and completion -/

/-- R151. The whole next state is given, so everything not named is unchanged. -/
def Obligations.SsSyncCapturesSentinel : Prop :=
  isByteEvent (encode .ssSync) = true ∧ eventByte (encode .ssSync) = 0b11111010#8 ∧
  ∀ s : State, s.run = .running → s.fsm = .seekStart →
    exec .ssSync s = .next { s with fsm := .seekIndex, pktBuf := s.pktBuf.set 0 0xFA#8 }

/-- R152. Nothing but the Desync label is added. -/
def Obligations.SsDropDiscardsByte : Prop :=
  ∀ (s : State) (b : Byte), s.run = .running → s.fsm = .seekStart → b ≠ 0xFA#8 →
    isByteEvent (encode (.ssDrop b)) = true ∧ eventByte (encode (.ssDrop b)) = b ∧
    exec (.ssDrop b) s = .next { s with trace := s.trace ++ [.cond (.desync (.byte b))] }

/-- R153, with the packet index as a number. -/
def Obligations.SiIndexStartsBody : Prop :=
  ∀ (s : State) (b : Byte), s.run = .running → s.fsm = .seekIndex → 0xA0 ≤ b.toNat → b.toNat ≤ 0xF9 →
    isByteEvent (encode (.siIndex b)) = true ∧ eventByte (encode (.siIndex b)) = b ∧
    ∃ i : PktIndex, i.val = b.toNat - 0xA0 ∧
      exec (.siIndex b) s =
        .next { s with fsm := .readBody, bodyCnt := 0, pktIdx := i, pktBuf := s.pktBuf.set 1 b }

/-- R154. -/
def Obligations.SiResyncKeepsSeeking : Prop :=
  isByteEvent (encode .siResync) = true ∧ eventByte (encode .siResync) = 0b11111010#8 ∧
  ∀ s : State, s.run = .running → s.fsm = .seekIndex →
    exec .siResync s =
      .next { s with pktBuf := s.pktBuf.set 0 0xFA#8, trace := s.trace ++ [.cond (.resync 0xFA#8)] }

/-- R155. -/
def Obligations.SiDesyncReturnsToStart : Prop :=
  ∀ (s : State) (b : Byte), s.run = .running → s.fsm = .seekIndex → (b.toNat < 0xA0 ∨ 0xFA < b.toNat) →
    isByteEvent (encode (.siDesync b)) = true ∧ eventByte (encode (.siDesync b)) = b ∧
    exec (.siDesync b) s =
      .next { s with fsm := .seekStart, trace := s.trace ++ [.cond (.desync (.byte b))] }

/-- R156. One byte of the capture buffer and BODY_CNT change, whatever the byte is. -/
def Obligations.RbByteCapturesByte : Prop :=
  ∀ (s : State) (b : Byte), s.run = .running → s.fsm = .readBody → s.bodyCnt.val < 19 →
    isByteEvent (encode (.rbByte b)) = true ∧ eventByte (encode (.rbByte b)) = b ∧
    ∃ t, exec (.rbByte b) s = .next t ∧ t = { s with pktBuf := t.pktBuf, bodyCnt := t.bodyCnt } ∧
      t.bodyCnt.val = s.bodyCnt.val + 1 ∧
      ∀ j : PktByte, t.pktBuf[j] = if j.val = 2 + s.bodyCnt.val then b else s.pktBuf[j]

/-- R158: the packet's four angles and everything else it would have written keep their values, and the counter goes up
by exactly 1 (where it has room for one more; its wrap is in `DiscardedPacketOnlyCounted`). -/
def Obligations.DiscardedPacketKeepsItsAngles : Prop :=
  ∀ (s : State) (b : Byte), s.run = .running → s.fsm = .readBody → s.bodyCnt.val = 19 →
    packetPasses (s.pktBuf.set 21 b) = false →
    ∃ t, exec (.rbLast b) s = .next t ∧
      (∀ k : Lane, t.work[angleOf s.pktIdx k] = s.work[angleOf s.pktIdx k]) ∧
      t.lastSpeed = s.lastSpeed ∧ t.work = s.work ∧ t.seen = s.seen ∧ t.pub = s.pub ∧ t.pubValid = s.pubValid ∧
      t.resp = s.resp ∧ t.reqPending = s.reqPending ∧
      (s.cfg.legal = true → s.errCount.toNat + 1 < 2 ^ s.cfg.errW → t.errCount.toNat = s.errCount.toNat + 1)

/-- The whole effect of RB_LAST on a packet that fails its checksum (41_framer.md section 3): the counter, the last
captured byte, the parser's position and the condition. The 16-bit comparison is D4, the counter's width and wrap D5,
the spec's own choices. -/
def Obligations.DiscardedPacketOnlyCounted : Prop :=
  ∀ (s : State) (b : Byte) (buf : PktBuf), s.run = .running → s.fsm = .readBody → s.bodyCnt.val = 19 →
    buf = s.pktBuf.set 21 b → receivedChk buf ≠ (computedChk buf).setWidth 16 →
    exec (.rbLast b) s =
      .next { s with
        pktBuf := buf, fsm := .seekStart, bodyCnt := 0
        errCount := BitVec.ofNat 32 ((s.errCount.toNat + 1) % 2 ^ s.cfg.errW)
        trace := s.trace ++ [.cond (.checksumMismatch s.pktIdx (receivedChk buf) (computedChk buf))] }

/-- R212 (with R197): a passing packet replaces the four whole slot words of its index, each decoded from its own
four bytes, and no other slot, in every state and whatever the readings are. -/
def Obligations.PassingPacketReplacesItsSlots : Prop :=
  ∀ (s : State) (b : Byte) (buf : PktBuf), s.run = .running → s.fsm = .readBody → s.bodyCnt.val = 19 →
    buf = s.pktBuf.set 21 b → packetPasses buf = true →
    ∃ t, exec (.rbLast b) s = .next t ∧
      (∀ (k : Lane) (a : Angle), a.val = 4 * s.pktIdx.val + k.val →
        t.work[a] =
          decodeReading buf[4 + 4 * k.val] buf[5 + 4 * k.val] buf[6 + 4 * k.val] buf[7 + 4 * k.val]) ∧
      (∀ a : Angle, (∀ k : Lane, a.val ≠ 4 * s.pktIdx.val + k.val) → t.work[a] = s.work[a])

/-- The whole effect of RB_LAST on a packet that passes, for both values of FILL_GUARD (43_scan_assembler.md sections
Assemble and Publish; D4, D6, D7, D9 are the spec's own choices). -/
def Obligations.PassingPacketFullEffect : Prop :=
  ∀ (s : State) (b : Byte) (buf : PktBuf), s.run = .running → s.fsm = .readBody → s.bodyCnt.val = 19 →
    buf = s.pktBuf.set 21 b → receivedChk buf = (computedChk buf).setWidth 16 →
    ∃ t, exec (.rbLast b) s = .next t ∧
      t.run = .running ∧ t.fsm = .seekStart ∧ t.bodyCnt = 0 ∧ t.pktIdx = s.pktIdx ∧ t.pktBuf = buf ∧
      t.errCount = s.errCount ∧ t.cfg = s.cfg ∧ t.events = s.events ∧
      t.lastSpeed = le16 buf[2] buf[3] ∧
      (∀ a : Angle, t.work[a] =
        if a.val / 4 = s.pktIdx.val then
          le32 buf[4 + 4 * (a.val % 4)] buf[5 + 4 * (a.val % 4)] buf[6 + 4 * (a.val % 4)] buf[7 + 4 * (a.val % 4)]
        else s.work[a]) ∧
      (∀ j : PktIndex, t.seen[j] = (s.seen[j] || (s.cfg.fillGuard && j == s.pktIdx))) ∧
      ((s.pktIdx.val = 89 ∧ (s.cfg.fillGuard = true → ∀ j : PktIndex, j.val ≠ 89 → s.seen[j] = true)) →
        t.pub = t.work ∧ t.pubValid = true ∧ t.reqPending = false ∧
        t.resp = (if s.reqPending then t.work else s.resp) ∧
        t.trace = s.trace ++ (if s.reqPending then [.resp (.scan t.work)] else [])) ∧
      (¬(s.pktIdx.val = 89 ∧ (s.cfg.fillGuard = true → ∀ j : PktIndex, j.val ≠ 89 → s.seen[j] = true)) →
        t.pub = s.pub ∧ t.pubValid = s.pubValid ∧ t.reqPending = s.reqPending ∧ t.resp = s.resp ∧
        t.trace = s.trace)

/-- R213: with FILL_GUARD false a passing packet publishes exactly when its index is 89, whatever came before; index 89
is index byte 0xF9 and angles 356 to 359. -/
def Obligations.PassingPacket89Publishes : Prop :=
  (∀ (s : State) (b : Byte), s.run = .running → s.fsm = .readBody → s.bodyCnt.val = 19 →
    packetPasses (s.pktBuf.set 21 b) = true → s.cfg.fillGuard = false →
    ∃ t, exec (.rbLast b) s = .next t ∧
      (s.pktIdx.val = 89 → t.pub = t.work ∧ t.pubValid = true) ∧
      (s.pktIdx.val ≠ 89 → t.pub = s.pub ∧ t.pubValid = s.pubValid ∧ t.trace = s.trace)) ∧
  (∀ b : Byte, 0xA0 ≤ b.toNat → b.toNat ≤ 0xF9 → ((packetIndex b).val = 89 ↔ b = 0xF9#8)) ∧
  ∀ k : Lane, (angleOf 89 k).val = 356 + k.val

/-- R220: a publication with no request outstanding updates PUB and PUB_VALID only, notifies no one, and a request
made afterwards waits. -/
def Obligations.PublicationWithoutRequestIsNotRemembered : Prop :=
  (∀ s : State, s.reqPending = false → s.publish = { s with pub := s.publish.pub, pubValid := true }) ∧
  ∀ (s : State) (b : Byte), s.run = .running → s.fsm = .readBody → s.bodyCnt.val = 19 →
    packetPasses (s.pktBuf.set 21 b) = true → s.pktIdx.val = 89 →
    (s.cfg.fillGuard = true → ∀ j : PktIndex, j.val ≠ 89 → s.seen[j] = true) → s.reqPending = false →
    ∃ t, exec (.rbLast b) s = .next t ∧ t.pub = t.work ∧ t.pubValid = true ∧
      t.resp = s.resp ∧ t.reqPending = false ∧ t.trace = s.trace ∧
      exec .hostReq t = .next { t with reqPending := true }

/-- FILL_GUARD (43_scan_assembler.md, the FILL_GUARD paragraph; D6, D25 are the spec's own choices): the first
publication needs every index, and SEEN is never cleared but by RESET. -/
def Obligations.GuardedPublicationNeedsEveryIndex : Prop :=
  ∀ (i : Instr) (s t : State), exec i s = .next t →
    (s.cfg.fillGuard = true → s.pubValid = false → t.pubValid = true →
      s.pktIdx.val = 89 ∧ (∃ b, i = .rbLast b) ∧ (∀ j : PktIndex, t.seen[j] = true) ∧
        ∀ j : PktIndex, j.val ≠ 89 → s.seen[j] = true) ∧
    (i ≠ .reset → ∀ j : PktIndex, s.seen[j] = true → t.seen[j] = true)

/-! ### The other events: result, frame and completion -/

/-- RX_TIMEOUT (44_host_interface.md section 1; D12 is the spec's own choice). -/
def Obligations.RxTimeoutDiscardsPartialPacket : Prop :=
  encode .rxTimeout = 0x01000000#32 ∧
  ∀ s : State,
    (s.cfg.rxTimeoutEn = true → s.run = .running → s.fsm ≠ .seekStart →
      exec .rxTimeout s =
        .next { s with fsm := .seekStart, bodyCnt := 0, trace := s.trace ++ [.cond (.desync .timeout)] }) ∧
    (s.cfg.rxTimeoutEn = true → (s.run ≠ .running ∨ s.fsm = .seekStart) → exec .rxTimeout s = .next s) ∧
    (s.cfg.rxTimeoutEn = false → exec .rxTimeout s = .refused .rxTimeoutAbsent)

/-- RX_DISCONNECT (44_host_interface.md section 1; D16, D23 are the spec's own choices). -/
def Obligations.RxDisconnectKeepsPublishedScan : Prop :=
  encode .rxDisconnect = 0x02000000#32 ∧
  ∀ s : State,
    ((s.run = .idle ∨ s.run = .running) →
      exec .rxDisconnect s =
        .next { s with
          run := .disconnected, fsm := .seekStart, bodyCnt := 0, trace := s.trace ++ [.cond .disconnect] }) ∧
    ((s.run = .stopped ∨ s.run = .disconnected) → exec .rxDisconnect s = .next s)

/-- CTL_START (44_host_interface.md section 2; D3, D23 are the spec's own choices). -/
def Obligations.CtlStartOnlyLeavesIdle : Prop :=
  encode .ctlStart = 0x10000000#32 ∧
  ∀ s : State,
    (s.run = .idle → exec .ctlStart s = .next { s with run := .running }) ∧
    (s.run ≠ .idle → exec .ctlStart s = .next s)

/-- CTL_STOP (44_host_interface.md section 2, and the bounded shutdown of section 4; D3, D15 are the spec's own
choices): a pending request is answered in the same step. -/
def Obligations.CtlStopAnswersPendingRequest : Prop :=
  encode .ctlStop = 0x11000000#32 ∧
  ∀ s : State,
    (s.run ≠ .stopped →
      exec .ctlStop s =
        .next { s with
          run := .stopped, fsm := .seekStart, bodyCnt := 0, reqPending := false
          trace := s.trace ++ (if s.reqPending then [.resp .shutdown] else []) }) ∧
    (s.run = .stopped → exec .ctlStop s = .next s)

/-- HOST_REQ (44_host_interface.md section 3; D14 is the spec's own choice): never answered from PUB. -/
def Obligations.HostReqWaitsForFreshPublication : Prop :=
  encode .hostReq = 0x20000000#32 ∧
  ∀ s : State,
    (s.run = .stopped → exec .hostReq s = .next { s with trace := s.trace ++ [.resp .shutdown] }) ∧
    (s.run ≠ .stopped → exec .hostReq s = .next { s with reqPending := true })

/-- REQ_TIMEOUT (44_host_interface.md section 3; D13 is the spec's own choice): RESP is not changed. -/
def Obligations.ReqTimeoutCompletesWithoutScan : Prop :=
  encode .reqTimeout = 0x21000000#32 ∧
  ∀ s : State,
    (s.cfg.reqTimeoutEn = true →
      exec .reqTimeout s =
        .next { s with
          reqPending := false, trace := s.trace ++ (if s.reqPending then [.resp .timeout] else []) }) ∧
    (s.cfg.reqTimeoutEn = false → exec .reqTimeout s = .refused .reqTimeoutAbsent)

/-- HOST_READ over the whole map (20_memory.md section 2; D10 is the spec's own choice): the word of each address,
bits [1:0] ignored, and no other effect than returning it. -/
def Obligations.HostReadReturnsMappedWord : Prop :=
  ∀ (s : State) (addr : HostAddr), (encode (.hostRead addr)).toNat = 0x30 * 2 ^ 24 + addr.toNat ∧
    ∃ w : Word, exec (.hostRead addr) s = .next { s with trace := s.trace ++ [.data w] } ∧
      (addr.toNat / 4 = 0 → w = statusWord s) ∧
      (addr.toNat / 4 = 1 → w.toNat = s.errCount.toNat % 2 ^ s.cfg.errW) ∧
      (addr.toNat / 4 = 2 → w.toNat = s.lastSpeed.toNat) ∧
      (∀ a : Angle, addr.toNat / 4 = 0x100 + a.val → w = s.resp[a]) ∧
      (∀ a : Angle, addr.toNat / 4 = 0x400 + a.val → w = s.pub[a]) ∧
      (((3 ≤ addr.toNat / 4 ∧ addr.toNat / 4 < 0x100) ∨ (0x268 ≤ addr.toNat / 4 ∧ addr.toNat / 4 < 0x400) ∨
        0x568 ≤ addr.toNat / 4) → w = 0)

/-- STATUS (10_state.md section 7; D10, D26 are the spec's own choices). -/
def Obligations.StatusWordLayout : Prop :=
  ∀ s : State,
    (statusWord s).toNat % 4 =
      (match s.run with | .idle => 0 | .running => 1 | .stopped => 2 | .disconnected => 3) ∧
    (statusWord s).toNat / 4 % 4 = (match s.fsm with | .seekStart => 0 | .seekIndex => 1 | .readBody => 2) ∧
    (statusWord s).getLsbD 4 = s.reqPending ∧ (statusWord s).getLsbD 5 = s.pubValid ∧
    (statusWord s).getLsbD 6 = s.cfg.fillGuard ∧ (statusWord s).getLsbD 7 = s.cfg.rxTimeoutEn ∧
    (statusWord s).getLsbD 8 = s.cfg.reqTimeoutEn ∧ (statusWord s).toNat / 512 = 0

/-- RESET (70_reset_and_hazards.md section 1; D17, D18 are the spec's own choices): every field of the block's record
in every state, a pending request answered first. The parameters, the offered events and the earlier outputs are the
model's own and stay (log 4, log 1, log 6). -/
def Obligations.ResetClearsWholeRecord : Prop :=
  encode .reset = 0xF0000000#32 ∧
  ∀ s : State, ∃ t, exec .reset s = .next t ∧
    t.run = .idle ∧ t.fsm = .seekStart ∧ t.bodyCnt.val = 0 ∧ t.pktIdx.val = 0 ∧
    (∀ j : PktByte, t.pktBuf[j] = 0x00#8) ∧ t.errCount = 0 ∧ t.lastSpeed = 0 ∧
    (∀ a : Angle, t.work[a] = 0x00000000#32) ∧ (∀ j : PktIndex, t.seen[j] = false) ∧
    (∀ a : Angle, t.pub[a] = 0x00000000#32) ∧ t.pubValid = false ∧ t.reqPending = false ∧
    (∀ a : Angle, t.resp[a] = 0x00000000#32) ∧
    t.cfg = s.cfg ∧ t.events = s.events ∧
    t.trace = s.trace ++ (if s.reqPending then [.resp .shutdown] else [])

/-- Power-on is the state RESET leaves (70_reset_and_hazards.md section 1; D17 is the spec's own choice): from every
state with the baseline parameters, RESET leads to `State.reset` but for the events still offered and the outputs. -/
def Obligations.PowerOnEqualsReset : Prop :=
  ∀ s : State, s.cfg = Config.baseline →
    ∃ t, exec .reset s = .next t ∧ State.reset = { t with events := [], trace := [] }

/-! ### Encoding -/

/-- Decode after encode, for every instruction, every operand its row admits, every parameter value that has the event
and every parser position that selects it (30_encoding.md sections 3 and 4; D2 is the spec's own choice). -/
def Obligations.DecodeOfEncode : Prop :=
  ∀ (cfg : Config) (fsm : Fsm) (cnt : BodyCount) (i : Instr),
    i.wf = true → i.selectedAt fsm cnt = true → i.presentIn cfg = true → decode cfg fsm cnt (encode i) = .ok i

/-- Encode after decode: every legal word is the word of the one instruction it decodes to, which is well-formed,
selected and present (30_encoding.md section 3; D2 is the spec's own choice). -/
def Obligations.EncodeOfDecode : Prop :=
  ∀ (cfg : Config) (fsm : Fsm) (cnt : BodyCount) (w : EventWord) (i : Instr), decode cfg fsm cnt w = .ok i →
    encode i = w ∧ i.wf = true ∧ i.selectedAt fsm cnt = true ∧ i.presentIn cfg = true

/-- Exactly the words of 30_encoding.md section 3 (illegal words) are refused, and a step that meets one refuses it by
name (D2 is the spec's own choice; that the step then stops is log 7). -/
def Obligations.IllegalWordsRefused : Prop :=
  (∀ (cfg : Config) (fsm : Fsm) (cnt : BodyCount) (w : EventWord),
    (∃ why, decode cfg fsm cnt w = .error why) ↔
      (w.toNat / 2 ^ 24 ∉ [0x00, 0x01, 0x02, 0x10, 0x11, 0x20, 0x21, 0x30, 0xF0] ∨
        (w.toNat / 2 ^ 24 = 0x00 ∧ w.toNat / 2 ^ 8 % 2 ^ 16 ≠ 0) ∨
        (w.toNat / 2 ^ 24 ≠ 0x00 ∧ w.toNat / 2 ^ 24 ≠ 0x30 ∧ w.toNat % 2 ^ 24 ≠ 0) ∨
        (w.toNat / 2 ^ 24 = 0x01 ∧ cfg.rxTimeoutEn = false) ∨
        (w.toNat / 2 ^ 24 = 0x21 ∧ cfg.reqTimeoutEn = false))) ∧
  (∀ (s t : State) (w : EventWord) (why : Reject), s.nextEvent = some (w, t) →
    decode s.cfg s.fsm s.bodyCnt w = .error why → step s = .refused (.illegalEvent why))

/-- R101 and R103: each row of the byte map is chosen exactly under its condition, the conditions are the rows' bit
patterns, the rows of SEEK_INDEX have 90, 1 and 165 bytes, and no byte is illegal in any state of the parser. -/
def Obligations.ByteMapIsAPartition : Prop :=
  (∀ (fsm : Fsm) (cnt : BodyCount) (b : Byte),
    (byteOp fsm cnt b = .ssSync ↔ fsm = .seekStart ∧ b = 0xFA#8) ∧
    (byteOp fsm cnt b = .ssDrop b ↔ fsm = .seekStart ∧ b ≠ 0xFA#8) ∧
    (byteOp fsm cnt b = .siIndex b ↔ fsm = .seekIndex ∧ 0xA0 ≤ b.toNat ∧ b.toNat ≤ 0xF9) ∧
    (byteOp fsm cnt b = .siResync ↔ fsm = .seekIndex ∧ b = 0xFA#8) ∧
    (byteOp fsm cnt b = .siDesync b ↔ fsm = .seekIndex ∧ (b.toNat < 0xA0 ∨ 0xFA < b.toNat)) ∧
    (byteOp fsm cnt b = .rbByte b ↔ fsm = .readBody ∧ cnt.val < 19) ∧
    (byteOp fsm cnt b = .rbLast b ↔ fsm = .readBody ∧ cnt.val = 19)) ∧
  (∀ b : Byte,
    (b ≠ 0xFA#8 ↔ b >>> 7 = 0b0 ∨ b >>> 6 = 0b10 ∨ b >>> 5 = 0b110 ∨ b >>> 4 = 0b1110 ∨ b >>> 3 = 0b11110 ∨
      b >>> 1 = 0b1111100 ∨ b = 0b11111011 ∨ b >>> 2 = 0b111111) ∧
    ((0xA0 ≤ b.toNat ∧ b.toNat ≤ 0xF9) ↔ b >>> 5 = 0b101 ∨ b >>> 5 = 0b110 ∨ b >>> 4 = 0b1110 ∨ b >>> 3 = 0b11110 ∨
      b >>> 1 = 0b1111100) ∧
    ((b.toNat < 0xA0 ∨ 0xFA < b.toNat) ↔ b >>> 7 = 0b0 ∨ b >>> 5 = 0b100 ∨ b = 0b11111011 ∨ b >>> 2 = 0b111111)) ∧
  ((List.range 256).countP fun n => decide (0xA0 ≤ n ∧ n ≤ 0xF9)) = 90 ∧
  ((List.range 256).countP fun n => decide (n < 0xA0 ∨ 0xFA < n)) = 165 ∧
  (∀ (cfg : Config) (fsm : Fsm) (cnt : BodyCount) (w : EventWord), isByteEvent w = true →
    decode cfg fsm cnt w = .ok (byteOp fsm cnt (eventByte w)))

/-- Words written out from 30_encoding.md sections 3 to 5 decode to the events they stand for. The event word's format
and the refusal of other words are D2, the spec's own choice; only the operation a byte then performs is R101. -/
def Obligations.WrittenOutWordsDecode : Prop :=
  decode Config.baseline .seekStart 0 0x000000FA#32 = .ok .ssSync ∧
  decode Config.baseline .seekIndex 0 0x000000FA#32 = .ok .siResync ∧
  decode Config.baseline .seekIndex 0 0x000000C3#32 = .ok (.siIndex 0xC3#8) ∧
  decode Config.baseline .readBody 19 0x0000006F#32 = .ok (.rbLast 0x6F#8) ∧
  decode Config.baseline .seekStart 0 0x11000000#32 = .ok .ctlStop ∧
  decode Config.baseline .readBody 3 0x30000990#32 = .ok (.hostRead 0x000990#24) ∧
  decode Config.baseline .seekStart 0 0xF0000000#32 = .ok .reset ∧
  decode Config.baseline .seekStart 0 0x000001FA#32 = .error .nonzeroPayload

/-! ### The step -/

/-- A step runs the decoded event (00_scope.md section 1; 44_host_interface.md section 1): a running block takes the
first word offered; a block that is not running passes over bytes (log 2) and takes the first other word; what was
taken is no longer offered, and the meaning runs on that state. -/
def Obligations.StepRunsTheDecodedEvent : Prop :=
  (∀ (s : State) (w : EventWord) (rest : List EventWord) (i : Instr), s.run = .running → s.events = w :: rest →
    decode s.cfg s.fsm s.bodyCnt w = .ok i → step s = exec i { s with events := rest }) ∧
  (∀ (s : State) (held : List Byte) (w : EventWord) (rest : List EventWord) (i : Instr), s.run ≠ .running →
    s.events = held.map byteWord ++ w :: rest → isByteEvent w = false →
    decode s.cfg s.fsm s.bodyCnt w = .ok i →
    step s = exec i { s with events := held.map byteWord ++ rest })

/-- A running block takes a byte in every state of the consumer's side, and a block that is not running never takes
one (20_memory.md section 6, R78; 44_host_interface.md section 1, D1 and D3, the spec's own choices). That the events are
a list is log 1 (DESIGN CHOICE); that a block which is not running takes the first word that is no byte, and that the bytes
before it stay offered in their place, is log 2 (DEDUCED). -/
def Obligations.ByteAcceptanceDependsOnRunAlone : Prop :=
  (∀ (s : State) (b : Byte) (rest : List EventWord), s.run = .running → s.events = byteWord b :: rest →
    ∃ t, step s = .next t ∧ t.events = rest) ∧
  (∀ (s t : State), s.run ≠ .running → step s = .next t →
    ∃ pre w post, s.events = pre ++ w :: post ∧ t.events = pre ++ post ∧ isByteEvent w = false ∧
      ∀ v ∈ pre, isByteEvent v = true)

/-- A byte offered to a block that is not running stays offered, in its place, and hides no later event
(44_host_interface.md section 1; 70_reset_and_hazards.md section 5; log 2). -/
def Obligations.HeldByteStaysOffered : Prop :=
  ∀ (s : State) (b : Byte) (rest : List EventWord), s.run ≠ .running → s.events = byteWord b :: rest →
    (∀ t, step { s with events := rest } = .next t → step s = .next { t with events := byteWord b :: t.events }) ∧
    (∀ r, step { s with events := rest } = .refused r → step s = .refused r) ∧
    ((∃ f, step { s with events := rest } = .fault f) → step s = .fault .stalled)

/-- Every legal event has a step, and a step stops only for want of an event or at an illegal word
(44_host_interface.md section 5, an inference the spec marks as its own; 70_reset_and_hazards.md section 5, D1 and D2, the
spec's own choices). How it stops is the model's choice: that `step` answers a fault where no event can be taken is log 3
(DESIGN CHOICE), that it stops at an illegal word is log 7 (DESIGN CHOICE). -/
def Obligations.LegalEventsHaveAStep : Prop :=
  (∀ (s t : State) (w : EventWord) (i : Instr), s.nextEvent = some (w, t) →
    decode s.cfg s.fsm s.bodyCnt w = .ok i → ∃ t', step s = .next t') ∧
  ∀ s : State, StopsOnlyAsAllowed (step s)

/-- Where a framer operation has a step and where it has none (30_encoding.md section 4; 44_host_interface.md
section 1; the names of the two stops are log 9). -/
def Obligations.FramerOpsRunExactlyWhereSelected : Prop :=
  ∀ (i : Instr) (s : State), i.isFramerOp = true →
    ((∃ t, exec i s = .next t) ↔ s.run = .running ∧ i.selectedAt s.fsm s.bodyCnt = true ∧ i.wf = true) ∧
    (s.run ≠ .running → exec i s = .refused .notReady) ∧
    (s.run = .running → ¬(i.selectedAt s.fsm s.bodyCnt = true ∧ i.wf = true) → exec i s = .refused .notSelected)

/-! ### Invariants -/

/-- The state right after reset satisfies the invariant. Its zero fields are D17, the spec's own choice (log 12); its
baseline parameters are the model's (log 4, DESIGN CHOICE), and so is the range of a legal ERR_W that they meet (log 5,
DEDUCED). `State.Inv` says of each clause whose it is. -/
def Obligations.ResetSatisfiesInv : Prop := State.reset.Inv

/-- Every step keeps the invariant, from every state that has it (10_state.md sections 3 to 6 and 8; 20_memory.md
section 6; 43_scan_assembler.md). The clauses from R23, R24, R27, R28 and R76 are inferences the spec marks as its own;
those from R30, R37 and R217 rest on D5, D6 and D25, the spec's own choices; the legal ERR_W is the model's (log 5,
DEDUCED), and that no step changes the parameters is log 4 (DESIGN CHOICE). -/
def Obligations.StepKeepsInv : Prop := ∀ s t : State, s.Inv → step s = .next t → t.Inv

/-! ### Whole-machine rules -/

/-- 22 bytes that form a well-formed packet, offered to a running block in SEEK_START, take 22 steps and put its four
readings into its four slots and nowhere else, with no condition raised, for both values of FILL_GUARD (41_framer.md
section 4, packet cadence, an inference the spec marks as its own; 43_scan_assembler.md; the 16-bit comparison D4,
FILL_GUARD D6, the buffers D7, the slot words D8, LAST_SPEED D9 and the checksum's start D27 are the spec's own
choices). -/
def Obligations.WellFormedPacketAssembled : Prop :=
  ∀ (s : State) (p : PktBuf) (rest : List EventWord), s.run = .running → s.fsm = .seekStart →
    p[0] = 0xFA#8 → 0xA0 ≤ p[1].toNat → p[1].toNat ≤ 0xF9 → receivedChk p = (computedChk p).setWidth 16 →
    s.events = p.toList.map byteWord ++ rest →
    ∃ t, Host.Core.run Sys2Proof.core 22 s = .next t ∧
      t.run = .running ∧ t.fsm = .seekStart ∧ t.bodyCnt = 0 ∧ t.pktBuf = p ∧ t.events = rest ∧ t.cfg = s.cfg ∧
      t.pktIdx.val = p[1].toNat - 0xA0 ∧ t.errCount = s.errCount ∧ t.lastSpeed = le16 p[2] p[3] ∧
      (∀ a : Angle, t.work[a] =
        if a.val / 4 = p[1].toNat - 0xA0 then
          le32 p[4 + 4 * (a.val % 4)] p[5 + 4 * (a.val % 4)] p[6 + 4 * (a.val % 4)] p[7 + 4 * (a.val % 4)]
        else s.work[a]) ∧
      (∀ j : PktIndex, t.seen[j] = (s.seen[j] || (s.cfg.fillGuard && decide (j.val = p[1].toNat - 0xA0)))) ∧
      ((p[1].toNat = 0xF9 ∧ (s.cfg.fillGuard = true → ∀ j : PktIndex, j.val ≠ 89 → s.seen[j] = true)) →
        t.pub = t.work ∧ t.pubValid = true ∧ t.reqPending = false ∧
        t.resp = (if s.reqPending then t.work else s.resp) ∧
        t.trace = s.trace ++ (if s.reqPending then [.resp (.scan t.work)] else [])) ∧
      (¬(p[1].toNat = 0xF9 ∧ (s.cfg.fillGuard = true → ∀ j : PktIndex, j.val ≠ 89 → s.seen[j] = true)) →
        t.pub = s.pub ∧ t.pubValid = s.pubValid ∧ t.resp = s.resp ∧ t.reqPending = s.reqPending ∧
        t.trace = s.trace)

/-- The same 22 bytes with a checksum that does not match: the packet is counted and nothing of it is stored
(41_framer.md section 3). The 16-bit comparison is D4 and the counter's width and wrap D5, the spec's own choices; the 22
steps are section 4, packet cadence, an inference the spec marks as its own. -/
def Obligations.CorruptPacketOnlyCounted : Prop :=
  ∀ (s : State) (p : PktBuf) (rest : List EventWord), s.run = .running → s.fsm = .seekStart →
    s.cfg.legal = true → p[0] = 0xFA#8 → 0xA0 ≤ p[1].toNat → p[1].toNat ≤ 0xF9 →
    receivedChk p ≠ (computedChk p).setWidth 16 → s.events = p.toList.map byteWord ++ rest →
    ∃ t, Host.Core.run Sys2Proof.core 22 s = .next t ∧
      t.fsm = .seekStart ∧ t.bodyCnt = 0 ∧ t.events = rest ∧
      t.errCount.toNat = (s.errCount.toNat + 1) % 2 ^ s.cfg.errW ∧
      t.lastSpeed = s.lastSpeed ∧ t.work = s.work ∧ t.seen = s.seen ∧ t.pub = s.pub ∧ t.pubValid = s.pubValid ∧
      t.resp = s.resp ∧ t.reqPending = s.reqPending ∧
      ∃ i : PktIndex, i.val = p[1].toNat - 0xA0 ∧
        t.trace = s.trace ++ [.cond (.checksumMismatch i (receivedChk p) (computedChk p))]

/-- One full revolution, packets 0 to 89 of any content, from SEEK_START and for both values of FILL_GUARD: 1980
steps, every published slot holds this revolution's reading, and a pending request is answered exactly once
(43_scan_assembler.md, once per revolution, an inference the spec marks as its own; FILL_GUARD is D6, the buffers D7, the
lifetime of SEEN D25, the notation D21, the spec's own choices). That PUB changes at a publication only is
`PubChangesOnlyAtPublication`. -/
def Obligations.FullRevolutionAnswersOnce : Prop :=
  ∀ (s : State) (v : PktIndex → Half) (rd : PktIndex → Lane → Reading) (rest : List EventWord),
    s.run = .running → s.fsm = .seekStart →
    s.events = stimulus ((List.finRange 90).map fun i => .packet i (v i) (rd i 0) (rd i 1) (rd i 2) (rd i 3)) ++ rest →
    ∃ t, Host.Core.run Sys2Proof.core 1980 s = .next t ∧
      t.run = .running ∧ t.fsm = .seekStart ∧ t.bodyCnt = 0 ∧ t.events = rest ∧
      (∀ (i : PktIndex) (k : Lane), readingOf t.pub[angleOf i k] = rd i k) ∧
      t.work = t.pub ∧ t.pubValid = true ∧ t.reqPending = false ∧ t.errCount = s.errCount ∧
      t.lastSpeed = v 89 ∧ t.resp = (if s.reqPending then t.pub else s.resp) ∧
      t.trace = s.trace ++ (if s.reqPending then [.resp (.scan t.pub)] else [])

/-- Any number of extra sentinels before the index byte leave the framing as with one (41_framer.md section 4, stray
sentinel, an inference the spec marks as its own): only the Resync labels differ. -/
def Obligations.StraySentinelsAreHarmless : Prop :=
  ∀ (s : State) (n : Nat) (b : Byte) (rest : List EventWord), s.run = .running → s.fsm = .seekStart →
    0xA0 ≤ b.toNat → b.toNat ≤ 0xF9 →
    ∃ t : State,
      Host.Core.run Sys2Proof.core 2 { s with events := byteWord 0xFA#8 :: byteWord b :: rest } = .next t ∧
      t.trace = s.trace ∧
      Host.Core.run Sys2Proof.core (n + 2)
          { s with events := List.replicate (n + 1) (byteWord 0xFA#8) ++ byteWord b :: rest } =
        .next { t with trace := s.trace ++ List.replicate n (.cond (.resync 0xFA#8)) }

/-- Until a RESET is offered, a stopped block keeps its producer side and the snapshot whatever is offered, for any
number of steps, and with no request pending none comes to be (44_host_interface.md section 2; 60_exceptions.md section 6;
D3, D14, D15 are the spec's own choices; that REQ_PENDING is 0 in STOPPED is 10_state.md section 3, an inference the spec
marks as its own). Outputs and offered words do change. -/
def Obligations.StoppedBlockKeepsProducerAndSnapshot : Prop :=
  ∀ (n : Nat) (s t : State), s.run = .stopped → (∀ w ∈ s.events, eventClass w ≠ 0xF0#8) →
    Host.Core.run Sys2Proof.core n s = .next t →
    SameProducer s t ∧ t.resp = s.resp ∧ (s.reqPending = false → t.reqPending = false)

/-- No event of the consumer changes the producer side, PUB, RESP or the parameters (20_memory.md sections 2, 4 and 6;
44_host_interface.md section 3). It rests on the spec's own choices: host reads are read-only and have no side effect
(D10), the buffers (D7), what HOST_REQ (D14) and REQ_TIMEOUT (D13) do. -/
def Obligations.ConsumerEventsLeaveProducerAlone : Prop :=
  ∀ (i : Instr) (s t : State), agentOf i = .consumer → exec i s = .next t → SameProducer s t ∧ t.resp = s.resp

/-- The producer side learns nothing of the consumer's side: from two states that agree on it, an event has a step in
both or in none, and the next states agree on it (20_memory.md section 6). -/
def Obligations.ProducerIgnoresConsumer : Prop :=
  ∀ (i : Instr) (s1 s2 t1 : State), SameProducer s1 s2 → exec i s1 = .next t1 →
    ∃ t2, exec i s2 = .next t2 ∧ SameProducer t1 t2

/-- RESP changes only in the step that answers a request with it, or by RESET (70_reset_and_hazards.md section 3, the
RESP read discipline, an inference the spec marks as its own; D7). -/
def Obligations.RespChangesOnlyWithScanResponse : Prop :=
  ∀ (i : Instr) (s t : State), exec i s = .next t → t.resp ≠ s.resp →
    (i = .reset ∧ ∀ a : Angle, t.resp[a] = 0) ∨
    (s.reqPending = true ∧ t.reqPending = false ∧ t.resp = t.pub ∧ t.pub = t.work ∧
      t.trace = s.trace ++ [.resp (.scan t.resp)])

/-- PUB changes only by RESET or at a publication, which needs RUNNING, packet 89 and leaves PUB equal to WORK
(20_memory.md section 6, snapshot consistency, and 70_reset_and_hazards.md section 3, PUB window tearing, inferences
the spec marks as its own; D7). -/
def Obligations.PubChangesOnlyAtPublication : Prop :=
  ∀ (i : Instr) (s t : State), exec i s = .next t → (t.pub ≠ s.pub ∨ t.pubValid ≠ s.pubValid) →
    (i = .reset ∧ t.pubValid = false ∧ ∀ a : Angle, t.pub[a] = 0) ∨
    ((∃ b, i = .rbLast b) ∧ s.run = .running ∧ s.pktIdx.val = 89 ∧ t.pub = t.work ∧ t.pubValid = true)

/-- ERR_COUNT changes only by RESET or by exactly 1 at an RB_LAST whose checksum does not match (10_state.md
section 6; D5 is the spec's own choice). -/
def Obligations.ErrCountChangesOnlyOnMismatch : Prop :=
  ∀ (i : Instr) (s t : State), exec i s = .next t → s.cfg.legal = true → t.errCount ≠ s.errCount →
    (i = .reset ∧ t.errCount = 0) ∨
    (∃ b, i = .rbLast b ∧ s.run = .running ∧ receivedChk t.pktBuf ≠ (computedChk t.pktBuf).setWidth 16 ∧
      t.errCount.toNat = (s.errCount.toNat + 1) % 2 ^ s.cfg.errW ∧ t.work = s.work)

/-- A step has at most one output, and each condition is raised by the operations of its rule only; SensorError by
none (60_exceptions.md sections 1 and 3; one condition per step is an inference the spec marks as its own). -/
def Obligations.ConditionsRaisedByTheirOperationsOnly : Prop :=
  ∀ (i : Instr) (s t : State), exec i s = .next t →
    ∃ outs : List Output, t.trace = s.trace ++ outs ∧ outs.length ≤ 1 ∧
      (∀ b, .cond (.desync (.byte b)) ∈ outs → i = .ssDrop b ∨ i = .siDesync b) ∧
      (.cond (.desync .timeout) ∈ outs → i = .rxTimeout) ∧
      (∀ x r c, .cond (.checksumMismatch x r c) ∈ outs →
        (∃ b, i = .rbLast b) ∧ x = s.pktIdx ∧ r = receivedChk t.pktBuf ∧ c = computedChk t.pktBuf ∧
          r ≠ c.setWidth 16) ∧
      (.cond .sensorError ∉ outs) ∧
      (.cond .disconnect ∈ outs → i = .rxDisconnect ∧ t.run = .disconnected) ∧
      (∀ b, .cond (.resync b) ∈ outs → i = .siResync ∧ b = 0xFA#8) ∧
      (∀ w, .data w ∈ outs → ∃ a, i = .hostRead a)

/-- A request ends with exactly one response, of the kind of the event that ends it, and no other event ends one
(44_host_interface.md sections 3 and 4; D14 is the spec's own choice). -/
def Obligations.RequestEndsWithItsResponse : Prop :=
  ∀ (i : Instr) (s t : State), exec i s = .next t → s.reqPending = true → t.reqPending = false →
    (i = .ctlStop ∧ t.trace = s.trace ++ [.resp .shutdown]) ∨
    (i = .reset ∧ t.trace = s.trace ++ [.resp .shutdown]) ∨
    (i = .reqTimeout ∧ s.cfg.reqTimeoutEn = true ∧ t.trace = s.trace ++ [.resp .timeout]) ∨
    ((∃ b, i = .rbLast b) ∧ s.run = .running ∧ s.pktIdx.val = 89 ∧ t.resp = t.work ∧
      t.trace = s.trace ++ [.resp (.scan t.work)])

/-- No response without a request: one is emitted only by the step that ends the outstanding request, or by HOST_REQ
in STOPPED (44_host_interface.md section 4; D14 is the spec's own choice). -/
def Obligations.NoResponseWithoutRequest : Prop :=
  ∀ (i : Instr) (s t : State) (r : Response), exec i s = .next t → t.trace = s.trace ++ [.resp r] →
    (s.reqPending = true ∧ t.reqPending = false) ∨
    (i = .hostReq ∧ s.run = .stopped ∧ r = .shutdown)

/-- How each lifecycle state is left (60_exceptions.md section 6; 44_host_interface.md section 5; D3 is the spec's own
choice). -/
def Obligations.LifecycleTransitions : Prop :=
  ∀ (i : Instr) (s t : State), exec i s = .next t → t.run ≠ s.run →
    (i = .ctlStart ∧ s.run = .idle ∧ t.run = .running) ∨
    (i = .ctlStop ∧ t.run = .stopped) ∨
    (i = .rxDisconnect ∧ (s.run = .idle ∨ s.run = .running) ∧ t.run = .disconnected) ∨
    (i = .reset ∧ t.run = .idle)

/-- The sequencer advances by at most one packet byte, only on an accepted byte, and otherwise only returns to packet
byte 0 (10_state.md section 4, an inference the spec marks as its own). In SEEK_INDEX BODY_CNT is 0 in every reachable
state, and SI_INDEX sets it. -/
def Obligations.SequencerAdvancesOneByte : Prop :=
  ∀ (i : Instr) (s t : State), exec i s = .next t → t.packetByte ≠ s.packetByte →
    (i.isFramerOp = true ∧ s.run = .running ∧ (t.packetByte = s.packetByte + 1 ∨ t.packetByte = 0)) ∨
    (t.packetByte = 0 ∧ (i = .rxTimeout ∨ i = .ctlStop ∨ i = .rxDisconnect ∨ i = .reset))

/-! ### Checksum, readings, speed, notation -/

/-- The checksum of any 20 bytes (40_checksum.md; the initial value 0 is D27, the spec's own choice; the weights and
the bound are inferences the spec marks as its own): word i has weight 2^(9-i), the accumulator never passes
0x03FEFC01, and the result is low 15 bits plus the rest, carry dropped. -/
def Obligations.ChecksumIsTheWeightedFold : Prop :=
  ∀ body : Vector Byte 20,
    let acc := ∑ i : Fin 10, (body[2 * i.val].toNat + 256 * body[2 * i.val + 1].toNat) * 2 ^ (9 - i.val)
    (foldWords (wordsOf body.toList)).toNat = acc ∧ acc ≤ 0x03FEFC01 ∧
    (checksum body.toList).toNat = (acc % 2 ^ 15 + acc / 2 ^ 15) % 2 ^ 15

/-- A received checksum with bit 15 set always fails (40_checksum.md, validation; D4 is the spec's own choice). -/
def Obligations.HighChecksumBitAlwaysFails : Prop :=
  ∀ (s : State) (b : Byte), s.run = .running → s.fsm = .readBody → s.bodyCnt.val = 19 → 128 ≤ b.toNat →
    s.cfg.legal = true →
    ∃ t, exec (.rbLast b) s = .next t ∧ t.work = s.work ∧ t.pub = s.pub ∧ t.lastSpeed = s.lastSpeed ∧
      t.errCount.toNat = (s.errCount.toNat + 1) % 2 ^ s.cfg.errW

/-- Folding the bytes as they arrive gives the same checksum (40_checksum.md, the incremental form, an inference the
spec marks as its own). -/
def Obligations.IncrementalChecksumAgrees : Prop :=
  ∀ c : List Byte, c.length % 2 = 0 → incrementalChecksum c = checksum c

/-- R94, R193, R194: the fields of a reading from its four bytes. -/
def Obligations.ReadingFieldsFromBytes : Prop :=
  ∀ b0 b1 b2 b3 : Byte,
    (readingOf (decodeReading b0 b1 b2 b3)).distanceMm = b0.setWidth 14 ||| ((b1 &&& 0x3F#8).setWidth 14 <<< 8) ∧
    (readingOf (decodeReading b0 b1 b2 b3)).invalidFlag = ((b1 &&& 0x80#8) != 0#8) ∧
    (readingOf (decodeReading b0 b1 b2 b3)).weakSignalFlag = ((b1 &&& 0x40#8) != 0#8) ∧
    (readingOf (decodeReading b0 b1 b2 b3)).signalStrength = b2.setWidth 16 ||| (b3.setWidth 16 <<< 8)

/-- Slot words and readings are in one-to-one correspondence, and a host word's byte lanes are the received bytes
(30_encoding.md section 2; 20_memory.md section 3; D8, D11 are the spec's own choices). -/
def Obligations.SlotWordsAndReadingsCorrespond : Prop :=
  (∀ w : Word, slotOf (readingOf w) = w) ∧ (∀ r : Reading, readingOf (slotOf r) = r) ∧
  (∀ b0 b1 b2 b3 : Byte,
    byteLane (le32 b0 b1 b2 b3) 0 = b0 ∧ byteLane (le32 b0 b1 b2 b3) 1 = b1 ∧
    byteLane (le32 b0 b1 b2 b3) 2 = b2 ∧ byteLane (le32 b0 b1 b2 b3) 3 = b3)

/-- R93: RPM is raw / 64, bits [15:6] its integer part and bits [5:0] its fraction in units of 1/64. -/
def Obligations.SpeedIsSixFractionalBits : Prop :=
  ∀ raw : Half,
    rpm raw = (raw.toNat : Rat) / 64 ∧
    rpm raw = ((rpmWhole raw).toNat : Rat) + ((rpmFraction raw).toNat : Rat) / 64 ∧
    rpmWhole raw = raw.extractLsb' 6 10 ∧ rpmFraction raw = raw.extractLsb' 0 6

/-- R211: every angle is 4*i + k for exactly one packet index i and reading number k. -/
def Obligations.AngleMapIsOneToOneAndOnto : Prop :=
  (∀ (i : PktIndex) (k : Lane), (angleOf i k).val = 4 * i.val + k.val) ∧
  ∀ a : Angle, ∃ i k, angleOf i k = a ∧ ∀ j l, angleOf j l = a → j = i ∧ l = k

/-- The notation's PACKET line is 22 bytes that form a well-formed packet with this index, speed and readings
(30_encoding.md section 5; D21 is the spec's own choice). -/
def Obligations.PacketLineIsWellFormed : Prop :=
  ∀ (i : PktIndex) (v : Half) (rd : Lane → Reading),
    ∃ p : PktBuf, p.toList = packetBytes i v (rd 0) (rd 1) (rd 2) (rd 3) ∧
      p[0] = 0xFA#8 ∧ p[1].toNat = 0xA0 + i.val ∧ le16 p[2] p[3] = v ∧
      receivedChk p = (computedChk p).setWidth 16 ∧
      ∀ k : Lane, readingOf (laneWord p k) = rd k

/-! ### Runs (70_reset_and_hazards.md section 5; D1, D2 are the spec's own choices) -/

/-- A run ends only when no event can be taken. -/
def Obligations.ObservedRunIsExhausted : Prop :=
  ∀ (s : State) (ws : List EventWord), (observe s ws).state.nextEvent = none

/-- A refused word sets the mark and changes nothing else of the observation (log 7). -/
def Obligations.RefusedWordOnlySetsTheMark : Prop :=
  ∀ (s : State) (w : EventWord) (ws : List EventWord) (why : Reject), s.events = [] →
    decode s.cfg s.fsm s.bodyCnt w = .error why →
    observe s (w :: ws) = { state := (observe s ws).state, refused := true }
end

