-- ==== Sys2Proof/Laws/Codec.lean ====
section
/-! SUPPORT. The fields of an event word that was put together, and the two halves of a word that was taken apart. -/

namespace Sys2Proof

@[simp] theorem eventClass_eventWord (c : Byte) (p : HostAddr) : eventClass (eventWord c p) = c := by
  apply BitVec.eq_of_getLsbD_eq
  intro i hi
  have h1 : 24 + i < 32 := by omega
  simp [eventClass, eventWord, hi, h1]

@[simp] theorem eventPayload_eventWord (c : Byte) (p : HostAddr) : eventPayload (eventWord c p) = p := by
  apply BitVec.eq_of_getLsbD_eq
  intro i hi
  have h1 : i < 32 := by omega
  simp [eventPayload, eventWord, hi, h1]

@[simp] theorem eventWord_class_payload (w : EventWord) : eventWord (eventClass w) (eventPayload w) = w := by
  apply BitVec.eq_of_getLsbD_eq
  intro i hi
  simp only [eventClass, eventPayload, eventWord, BitVec.getLsbD_or, BitVec.getLsbD_shiftLeft,
    BitVec.getLsbD_setWidth, BitVec.getLsbD_extractLsb', hi, decide_true, Bool.true_and]
  by_cases h : i < 24
  · simp [h]
  · have h1 : 24 + (i - 24) = i := by omega
    have h2 : i - 24 < 8 := by omega
    have h3 : i - 24 < 32 := by omega
    simp [h, h1, h2, h3]

@[simp] theorem eventClass_byteWord (b : Byte) : eventClass (byteWord b) = classByte := by
  simp [byteWord]

@[simp] theorem bytePad_byteWord (b : Byte) : bytePad (byteWord b) = 0 := by
  apply BitVec.eq_of_getLsbD_eq
  intro i hi
  simp [bytePad, byteWord, eventWord]

@[simp] theorem eventByte_byteWord (b : Byte) : eventByte (byteWord b) = b := by
  apply BitVec.eq_of_getLsbD_eq
  intro i hi
  have h2 : i < 32 := by omega
  simp [eventByte, byteWord, eventWord, hi, h2]

@[simp] theorem isByteEvent_byteWord (b : Byte) : isByteEvent (byteWord b) = true := by
  simp [isByteEvent]

/-- A legal BYTE event word is the word of its byte. -/
theorem byteWord_eventByte {w : EventWord} (hc : eventClass w = classByte) (hp : bytePad w = 0) :
    byteWord (eventByte w) = w := by
  have hpl : (eventByte w).setWidth 24 = eventPayload w := by
    apply BitVec.eq_of_getLsbD_eq
    intro i hi
    simp only [eventByte, eventPayload, BitVec.getLsbD_setWidth, BitVec.getLsbD_extractLsb']
    by_cases h : i < 8
    · simp [h, hi]
    · have hb := congrArg (fun v => v.getLsbD (i - 8)) hp
      have h1 : 8 + (i - 8) = i := by omega
      have h2 : i - 8 < 16 := by omega
      simp only [bytePad, BitVec.getLsbD_extractLsb', h1, h2, decide_true, Bool.true_and] at hb
      simpa [h, hi] using hb.symm
  rw [byteWord, hpl, ← hc, eventWord_class_payload]

/-- An index byte is never the sentinel (R101). -/
theorem not_isIndexByte_sentinel : isIndexByte sentinel = false := by decide

theorem ne_sentinel_of_isIndexByte {b : Byte} (h : isIndexByte b = true) : b ≠ sentinel := by
  rintro rfl
  simp [not_isIndexByte_sentinel] at h

/-- The decoder on the word of a byte: the byte map at the parser's position (R101). -/
@[simp] theorem decode_byteWord (cfg : Config) (fsm : Fsm) (cnt : BodyCount) (b : Byte) :
    decode cfg fsm cnt (byteWord b) = .ok (byteOp fsm cnt b) := by
  simp [decode]

end Sys2Proof
end

