-- ==== Sys2Proof/Laws/State.lean ====
section
/-! SUPPORT. For every named operation on the state, the value of every field after it, so that no proof unfolds a
record update. -/

namespace Sys2Proof.Machine

/-! ### raise -/

@[simp] theorem State.raise_run (s : State) (c : Condition) : (s.raise c).run = s.run := rfl
@[simp] theorem State.raise_fsm (s : State) (c : Condition) : (s.raise c).fsm = s.fsm := rfl
@[simp] theorem State.raise_bodyCnt (s : State) (c : Condition) : (s.raise c).bodyCnt = s.bodyCnt := rfl
@[simp] theorem State.raise_pktIdx (s : State) (c : Condition) : (s.raise c).pktIdx = s.pktIdx := rfl
@[simp] theorem State.raise_pktBuf (s : State) (c : Condition) : (s.raise c).pktBuf = s.pktBuf := rfl
@[simp] theorem State.raise_errCount (s : State) (c : Condition) : (s.raise c).errCount = s.errCount := rfl
@[simp] theorem State.raise_lastSpeed (s : State) (c : Condition) : (s.raise c).lastSpeed = s.lastSpeed := rfl
@[simp] theorem State.raise_work (s : State) (c : Condition) : (s.raise c).work = s.work := rfl
@[simp] theorem State.raise_seen (s : State) (c : Condition) : (s.raise c).seen = s.seen := rfl
@[simp] theorem State.raise_pub (s : State) (c : Condition) : (s.raise c).pub = s.pub := rfl
@[simp] theorem State.raise_pubValid (s : State) (c : Condition) : (s.raise c).pubValid = s.pubValid := rfl
@[simp] theorem State.raise_reqPending (s : State) (c : Condition) : (s.raise c).reqPending = s.reqPending := rfl
@[simp] theorem State.raise_resp (s : State) (c : Condition) : (s.raise c).resp = s.resp := rfl
@[simp] theorem State.raise_cfg (s : State) (c : Condition) : (s.raise c).cfg = s.cfg := rfl
@[simp] theorem State.raise_events (s : State) (c : Condition) : (s.raise c).events = s.events := rfl
@[simp] theorem State.raise_trace (s : State) (c : Condition) : (s.raise c).trace = s.trace ++ [.cond c] := rfl

/-! ### emit -/

@[simp] theorem State.emit_run (s : State) (r : Response) : (s.emit r).run = s.run := rfl
@[simp] theorem State.emit_fsm (s : State) (r : Response) : (s.emit r).fsm = s.fsm := rfl
@[simp] theorem State.emit_bodyCnt (s : State) (r : Response) : (s.emit r).bodyCnt = s.bodyCnt := rfl
@[simp] theorem State.emit_pktIdx (s : State) (r : Response) : (s.emit r).pktIdx = s.pktIdx := rfl
@[simp] theorem State.emit_pktBuf (s : State) (r : Response) : (s.emit r).pktBuf = s.pktBuf := rfl
@[simp] theorem State.emit_errCount (s : State) (r : Response) : (s.emit r).errCount = s.errCount := rfl
@[simp] theorem State.emit_lastSpeed (s : State) (r : Response) : (s.emit r).lastSpeed = s.lastSpeed := rfl
@[simp] theorem State.emit_work (s : State) (r : Response) : (s.emit r).work = s.work := rfl
@[simp] theorem State.emit_seen (s : State) (r : Response) : (s.emit r).seen = s.seen := rfl
@[simp] theorem State.emit_pub (s : State) (r : Response) : (s.emit r).pub = s.pub := rfl
@[simp] theorem State.emit_pubValid (s : State) (r : Response) : (s.emit r).pubValid = s.pubValid := rfl
@[simp] theorem State.emit_reqPending (s : State) (r : Response) : (s.emit r).reqPending = s.reqPending := rfl
@[simp] theorem State.emit_resp (s : State) (r : Response) : (s.emit r).resp = s.resp := rfl
@[simp] theorem State.emit_cfg (s : State) (r : Response) : (s.emit r).cfg = s.cfg := rfl
@[simp] theorem State.emit_events (s : State) (r : Response) : (s.emit r).events = s.events := rfl
@[simp] theorem State.emit_trace (s : State) (r : Response) : (s.emit r).trace = s.trace ++ [.resp r] := rfl

/-! ### reply -/

@[simp] theorem State.reply_run (s : State) (w : Word) : (s.reply w).run = s.run := rfl
@[simp] theorem State.reply_fsm (s : State) (w : Word) : (s.reply w).fsm = s.fsm := rfl
@[simp] theorem State.reply_bodyCnt (s : State) (w : Word) : (s.reply w).bodyCnt = s.bodyCnt := rfl
@[simp] theorem State.reply_pktIdx (s : State) (w : Word) : (s.reply w).pktIdx = s.pktIdx := rfl
@[simp] theorem State.reply_pktBuf (s : State) (w : Word) : (s.reply w).pktBuf = s.pktBuf := rfl
@[simp] theorem State.reply_errCount (s : State) (w : Word) : (s.reply w).errCount = s.errCount := rfl
@[simp] theorem State.reply_lastSpeed (s : State) (w : Word) : (s.reply w).lastSpeed = s.lastSpeed := rfl
@[simp] theorem State.reply_work (s : State) (w : Word) : (s.reply w).work = s.work := rfl
@[simp] theorem State.reply_seen (s : State) (w : Word) : (s.reply w).seen = s.seen := rfl
@[simp] theorem State.reply_pub (s : State) (w : Word) : (s.reply w).pub = s.pub := rfl
@[simp] theorem State.reply_pubValid (s : State) (w : Word) : (s.reply w).pubValid = s.pubValid := rfl
@[simp] theorem State.reply_reqPending (s : State) (w : Word) : (s.reply w).reqPending = s.reqPending := rfl
@[simp] theorem State.reply_resp (s : State) (w : Word) : (s.reply w).resp = s.resp := rfl
@[simp] theorem State.reply_cfg (s : State) (w : Word) : (s.reply w).cfg = s.cfg := rfl
@[simp] theorem State.reply_events (s : State) (w : Word) : (s.reply w).events = s.events := rfl
@[simp] theorem State.reply_trace (s : State) (w : Word) : (s.reply w).trace = s.trace ++ [.data w] := rfl

/-! ### putByte -/

@[simp] theorem State.putByte_run (s : State) (i : PktByte) (b : Byte) : (s.putByte i b).run = s.run := rfl
@[simp] theorem State.putByte_fsm (s : State) (i : PktByte) (b : Byte) : (s.putByte i b).fsm = s.fsm := rfl
@[simp] theorem State.putByte_bodyCnt (s : State) (i : PktByte) (b : Byte) : (s.putByte i b).bodyCnt = s.bodyCnt := rfl
@[simp] theorem State.putByte_pktIdx (s : State) (i : PktByte) (b : Byte) : (s.putByte i b).pktIdx = s.pktIdx := rfl
@[simp] theorem State.putByte_pktBuf (s : State) (i : PktByte) (b : Byte) : (s.putByte i b).pktBuf = s.pktBuf.set i.val b := rfl
@[simp] theorem State.putByte_errCount (s : State) (i : PktByte) (b : Byte) : (s.putByte i b).errCount = s.errCount := rfl
@[simp] theorem State.putByte_lastSpeed (s : State) (i : PktByte) (b : Byte) : (s.putByte i b).lastSpeed = s.lastSpeed := rfl
@[simp] theorem State.putByte_work (s : State) (i : PktByte) (b : Byte) : (s.putByte i b).work = s.work := rfl
@[simp] theorem State.putByte_seen (s : State) (i : PktByte) (b : Byte) : (s.putByte i b).seen = s.seen := rfl
@[simp] theorem State.putByte_pub (s : State) (i : PktByte) (b : Byte) : (s.putByte i b).pub = s.pub := rfl
@[simp] theorem State.putByte_pubValid (s : State) (i : PktByte) (b : Byte) : (s.putByte i b).pubValid = s.pubValid := rfl
@[simp] theorem State.putByte_reqPending (s : State) (i : PktByte) (b : Byte) : (s.putByte i b).reqPending = s.reqPending := rfl
@[simp] theorem State.putByte_resp (s : State) (i : PktByte) (b : Byte) : (s.putByte i b).resp = s.resp := rfl
@[simp] theorem State.putByte_cfg (s : State) (i : PktByte) (b : Byte) : (s.putByte i b).cfg = s.cfg := rfl
@[simp] theorem State.putByte_events (s : State) (i : PktByte) (b : Byte) : (s.putByte i b).events = s.events := rfl
@[simp] theorem State.putByte_trace (s : State) (i : PktByte) (b : Byte) : (s.putByte i b).trace = s.trace := rfl

/-! ### goto -/

@[simp] theorem State.goto_run (s : State) (f : Fsm) : (s.goto f).run = s.run := rfl
@[simp] theorem State.goto_fsm (s : State) (f : Fsm) : (s.goto f).fsm = f := rfl
@[simp] theorem State.goto_bodyCnt (s : State) (f : Fsm) : (s.goto f).bodyCnt = s.bodyCnt := rfl
@[simp] theorem State.goto_pktIdx (s : State) (f : Fsm) : (s.goto f).pktIdx = s.pktIdx := rfl
@[simp] theorem State.goto_pktBuf (s : State) (f : Fsm) : (s.goto f).pktBuf = s.pktBuf := rfl
@[simp] theorem State.goto_errCount (s : State) (f : Fsm) : (s.goto f).errCount = s.errCount := rfl
@[simp] theorem State.goto_lastSpeed (s : State) (f : Fsm) : (s.goto f).lastSpeed = s.lastSpeed := rfl
@[simp] theorem State.goto_work (s : State) (f : Fsm) : (s.goto f).work = s.work := rfl
@[simp] theorem State.goto_seen (s : State) (f : Fsm) : (s.goto f).seen = s.seen := rfl
@[simp] theorem State.goto_pub (s : State) (f : Fsm) : (s.goto f).pub = s.pub := rfl
@[simp] theorem State.goto_pubValid (s : State) (f : Fsm) : (s.goto f).pubValid = s.pubValid := rfl
@[simp] theorem State.goto_reqPending (s : State) (f : Fsm) : (s.goto f).reqPending = s.reqPending := rfl
@[simp] theorem State.goto_resp (s : State) (f : Fsm) : (s.goto f).resp = s.resp := rfl
@[simp] theorem State.goto_cfg (s : State) (f : Fsm) : (s.goto f).cfg = s.cfg := rfl
@[simp] theorem State.goto_events (s : State) (f : Fsm) : (s.goto f).events = s.events := rfl
@[simp] theorem State.goto_trace (s : State) (f : Fsm) : (s.goto f).trace = s.trace := rfl

/-! ### discardPartial -/

@[simp] theorem State.discardPartial_run (s : State) : (s.discardPartial).run = s.run := rfl
@[simp] theorem State.discardPartial_fsm (s : State) : (s.discardPartial).fsm = .seekStart := rfl
@[simp] theorem State.discardPartial_bodyCnt (s : State) : (s.discardPartial).bodyCnt = 0 := rfl
@[simp] theorem State.discardPartial_pktIdx (s : State) : (s.discardPartial).pktIdx = s.pktIdx := rfl
@[simp] theorem State.discardPartial_pktBuf (s : State) : (s.discardPartial).pktBuf = s.pktBuf := rfl
@[simp] theorem State.discardPartial_errCount (s : State) : (s.discardPartial).errCount = s.errCount := rfl
@[simp] theorem State.discardPartial_lastSpeed (s : State) : (s.discardPartial).lastSpeed = s.lastSpeed := rfl
@[simp] theorem State.discardPartial_work (s : State) : (s.discardPartial).work = s.work := rfl
@[simp] theorem State.discardPartial_seen (s : State) : (s.discardPartial).seen = s.seen := rfl
@[simp] theorem State.discardPartial_pub (s : State) : (s.discardPartial).pub = s.pub := rfl
@[simp] theorem State.discardPartial_pubValid (s : State) : (s.discardPartial).pubValid = s.pubValid := rfl
@[simp] theorem State.discardPartial_reqPending (s : State) : (s.discardPartial).reqPending = s.reqPending := rfl
@[simp] theorem State.discardPartial_resp (s : State) : (s.discardPartial).resp = s.resp := rfl
@[simp] theorem State.discardPartial_cfg (s : State) : (s.discardPartial).cfg = s.cfg := rfl
@[simp] theorem State.discardPartial_events (s : State) : (s.discardPartial).events = s.events := rfl
@[simp] theorem State.discardPartial_trace (s : State) : (s.discardPartial).trace = s.trace := rfl

/-! ### writeLane -/

@[simp] theorem State.writeLane_run (s : State) (k : Lane) : (s.writeLane k).run = s.run := rfl
@[simp] theorem State.writeLane_fsm (s : State) (k : Lane) : (s.writeLane k).fsm = s.fsm := rfl
@[simp] theorem State.writeLane_bodyCnt (s : State) (k : Lane) : (s.writeLane k).bodyCnt = s.bodyCnt := rfl
@[simp] theorem State.writeLane_pktIdx (s : State) (k : Lane) : (s.writeLane k).pktIdx = s.pktIdx := rfl
@[simp] theorem State.writeLane_pktBuf (s : State) (k : Lane) : (s.writeLane k).pktBuf = s.pktBuf := rfl
@[simp] theorem State.writeLane_errCount (s : State) (k : Lane) : (s.writeLane k).errCount = s.errCount := rfl
@[simp] theorem State.writeLane_lastSpeed (s : State) (k : Lane) : (s.writeLane k).lastSpeed = s.lastSpeed := rfl
@[simp] theorem State.writeLane_work (s : State) (k : Lane) : (s.writeLane k).work = s.work.set (angleOf s.pktIdx k).val (laneWord s.pktBuf k) := rfl
@[simp] theorem State.writeLane_seen (s : State) (k : Lane) : (s.writeLane k).seen = s.seen := rfl
@[simp] theorem State.writeLane_pub (s : State) (k : Lane) : (s.writeLane k).pub = s.pub := rfl
@[simp] theorem State.writeLane_pubValid (s : State) (k : Lane) : (s.writeLane k).pubValid = s.pubValid := rfl
@[simp] theorem State.writeLane_reqPending (s : State) (k : Lane) : (s.writeLane k).reqPending = s.reqPending := rfl
@[simp] theorem State.writeLane_resp (s : State) (k : Lane) : (s.writeLane k).resp = s.resp := rfl
@[simp] theorem State.writeLane_cfg (s : State) (k : Lane) : (s.writeLane k).cfg = s.cfg := rfl
@[simp] theorem State.writeLane_events (s : State) (k : Lane) : (s.writeLane k).events = s.events := rfl
@[simp] theorem State.writeLane_trace (s : State) (k : Lane) : (s.writeLane k).trace = s.trace := rfl

/-! ### copyOut -/

@[simp] theorem State.copyOut_run (s : State) : (s.copyOut).run = s.run := rfl
@[simp] theorem State.copyOut_fsm (s : State) : (s.copyOut).fsm = s.fsm := rfl
@[simp] theorem State.copyOut_bodyCnt (s : State) : (s.copyOut).bodyCnt = s.bodyCnt := rfl
@[simp] theorem State.copyOut_pktIdx (s : State) : (s.copyOut).pktIdx = s.pktIdx := rfl
@[simp] theorem State.copyOut_pktBuf (s : State) : (s.copyOut).pktBuf = s.pktBuf := rfl
@[simp] theorem State.copyOut_errCount (s : State) : (s.copyOut).errCount = s.errCount := rfl
@[simp] theorem State.copyOut_lastSpeed (s : State) : (s.copyOut).lastSpeed = s.lastSpeed := rfl
@[simp] theorem State.copyOut_work (s : State) : (s.copyOut).work = s.work := rfl
@[simp] theorem State.copyOut_seen (s : State) : (s.copyOut).seen = s.seen := rfl
@[simp] theorem State.copyOut_pub (s : State) : (s.copyOut).pub = s.work := rfl
@[simp] theorem State.copyOut_pubValid (s : State) : (s.copyOut).pubValid = true := rfl
@[simp] theorem State.copyOut_reqPending (s : State) : (s.copyOut).reqPending = s.reqPending := rfl
@[simp] theorem State.copyOut_resp (s : State) : (s.copyOut).resp = s.resp := rfl
@[simp] theorem State.copyOut_cfg (s : State) : (s.copyOut).cfg = s.cfg := rfl
@[simp] theorem State.copyOut_events (s : State) : (s.copyOut).events = s.events := rfl
@[simp] theorem State.copyOut_trace (s : State) : (s.copyOut).trace = s.trace := rfl

/-! ### clear -/

@[simp] theorem State.clear_run (s : State) : (s.clear).run = .idle := rfl
@[simp] theorem State.clear_fsm (s : State) : (s.clear).fsm = .seekStart := rfl
@[simp] theorem State.clear_bodyCnt (s : State) : (s.clear).bodyCnt = 0 := rfl
@[simp] theorem State.clear_pktIdx (s : State) : (s.clear).pktIdx = 0 := rfl
@[simp] theorem State.clear_pktBuf (s : State) : (s.clear).pktBuf = Vector.replicate 22 0x00#8 := rfl
@[simp] theorem State.clear_errCount (s : State) : (s.clear).errCount = 0 := rfl
@[simp] theorem State.clear_lastSpeed (s : State) : (s.clear).lastSpeed = 0 := rfl
@[simp] theorem State.clear_work (s : State) : (s.clear).work = zeroScan := rfl
@[simp] theorem State.clear_seen (s : State) : (s.clear).seen = Vector.replicate 90 false := rfl
@[simp] theorem State.clear_pub (s : State) : (s.clear).pub = zeroScan := rfl
@[simp] theorem State.clear_pubValid (s : State) : (s.clear).pubValid = false := rfl
@[simp] theorem State.clear_reqPending (s : State) : (s.clear).reqPending = false := rfl
@[simp] theorem State.clear_resp (s : State) : (s.clear).resp = zeroScan := rfl
@[simp] theorem State.clear_cfg (s : State) : (s.clear).cfg = s.cfg := rfl
@[simp] theorem State.clear_events (s : State) : (s.clear).events = s.events := rfl
@[simp] theorem State.clear_trace (s : State) : (s.clear).trace = s.trace := rfl

/-! ### markSeen -/

@[simp] theorem State.markSeen_run (s : State) : (s.markSeen).run = s.run := by
  unfold State.markSeen; split <;> simp_all
@[simp] theorem State.markSeen_fsm (s : State) : (s.markSeen).fsm = s.fsm := by
  unfold State.markSeen; split <;> simp_all
@[simp] theorem State.markSeen_bodyCnt (s : State) : (s.markSeen).bodyCnt = s.bodyCnt := by
  unfold State.markSeen; split <;> simp_all
@[simp] theorem State.markSeen_pktIdx (s : State) : (s.markSeen).pktIdx = s.pktIdx := by
  unfold State.markSeen; split <;> simp_all
@[simp] theorem State.markSeen_pktBuf (s : State) : (s.markSeen).pktBuf = s.pktBuf := by
  unfold State.markSeen; split <;> simp_all
@[simp] theorem State.markSeen_errCount (s : State) : (s.markSeen).errCount = s.errCount := by
  unfold State.markSeen; split <;> simp_all
@[simp] theorem State.markSeen_lastSpeed (s : State) : (s.markSeen).lastSpeed = s.lastSpeed := by
  unfold State.markSeen; split <;> simp_all
@[simp] theorem State.markSeen_work (s : State) : (s.markSeen).work = s.work := by
  unfold State.markSeen; split <;> simp_all
@[simp] theorem State.markSeen_seen (s : State) : (s.markSeen).seen = if s.cfg.fillGuard then s.seen.set s.pktIdx.val true else s.seen := by
  unfold State.markSeen; split <;> simp_all
@[simp] theorem State.markSeen_pub (s : State) : (s.markSeen).pub = s.pub := by
  unfold State.markSeen; split <;> simp_all
@[simp] theorem State.markSeen_pubValid (s : State) : (s.markSeen).pubValid = s.pubValid := by
  unfold State.markSeen; split <;> simp_all
@[simp] theorem State.markSeen_reqPending (s : State) : (s.markSeen).reqPending = s.reqPending := by
  unfold State.markSeen; split <;> simp_all
@[simp] theorem State.markSeen_resp (s : State) : (s.markSeen).resp = s.resp := by
  unfold State.markSeen; split <;> simp_all
@[simp] theorem State.markSeen_cfg (s : State) : (s.markSeen).cfg = s.cfg := by
  unfold State.markSeen; split <;> simp_all
@[simp] theorem State.markSeen_events (s : State) : (s.markSeen).events = s.events := by
  unfold State.markSeen; split <;> simp_all
@[simp] theorem State.markSeen_trace (s : State) : (s.markSeen).trace = s.trace := by
  unfold State.markSeen; split <;> simp_all

/-! ### handOff -/

@[simp] theorem State.handOff_run (s : State) : (s.handOff).run = s.run := by
  unfold State.handOff; split <;> simp_all
@[simp] theorem State.handOff_fsm (s : State) : (s.handOff).fsm = s.fsm := by
  unfold State.handOff; split <;> simp_all
@[simp] theorem State.handOff_bodyCnt (s : State) : (s.handOff).bodyCnt = s.bodyCnt := by
  unfold State.handOff; split <;> simp_all
@[simp] theorem State.handOff_pktIdx (s : State) : (s.handOff).pktIdx = s.pktIdx := by
  unfold State.handOff; split <;> simp_all
@[simp] theorem State.handOff_pktBuf (s : State) : (s.handOff).pktBuf = s.pktBuf := by
  unfold State.handOff; split <;> simp_all
@[simp] theorem State.handOff_errCount (s : State) : (s.handOff).errCount = s.errCount := by
  unfold State.handOff; split <;> simp_all
@[simp] theorem State.handOff_lastSpeed (s : State) : (s.handOff).lastSpeed = s.lastSpeed := by
  unfold State.handOff; split <;> simp_all
@[simp] theorem State.handOff_work (s : State) : (s.handOff).work = s.work := by
  unfold State.handOff; split <;> simp_all
@[simp] theorem State.handOff_seen (s : State) : (s.handOff).seen = s.seen := by
  unfold State.handOff; split <;> simp_all
@[simp] theorem State.handOff_pub (s : State) : (s.handOff).pub = s.pub := by
  unfold State.handOff; split <;> simp_all
@[simp] theorem State.handOff_pubValid (s : State) : (s.handOff).pubValid = s.pubValid := by
  unfold State.handOff; split <;> simp_all
@[simp] theorem State.handOff_reqPending (s : State) : (s.handOff).reqPending = false := by
  unfold State.handOff; split <;> simp_all
@[simp] theorem State.handOff_resp (s : State) : (s.handOff).resp = if s.reqPending then s.pub else s.resp := by
  unfold State.handOff; split <;> simp_all
@[simp] theorem State.handOff_cfg (s : State) : (s.handOff).cfg = s.cfg := by
  unfold State.handOff; split <;> simp_all
@[simp] theorem State.handOff_events (s : State) : (s.handOff).events = s.events := by
  unfold State.handOff; split <;> simp_all
@[simp] theorem State.handOff_trace (s : State) : (s.handOff).trace = if s.reqPending then s.trace ++ [.resp (.scan s.pub)] else s.trace := by
  unfold State.handOff; split <;> simp_all

/-! ### completeRequest -/

@[simp] theorem State.completeRequest_run (s : State) (r : Response) : (s.completeRequest r).run = s.run := by
  unfold State.completeRequest; split <;> simp_all
@[simp] theorem State.completeRequest_fsm (s : State) (r : Response) : (s.completeRequest r).fsm = s.fsm := by
  unfold State.completeRequest; split <;> simp_all
@[simp] theorem State.completeRequest_bodyCnt (s : State) (r : Response) : (s.completeRequest r).bodyCnt = s.bodyCnt := by
  unfold State.completeRequest; split <;> simp_all
@[simp] theorem State.completeRequest_pktIdx (s : State) (r : Response) : (s.completeRequest r).pktIdx = s.pktIdx := by
  unfold State.completeRequest; split <;> simp_all
@[simp] theorem State.completeRequest_pktBuf (s : State) (r : Response) : (s.completeRequest r).pktBuf = s.pktBuf := by
  unfold State.completeRequest; split <;> simp_all
@[simp] theorem State.completeRequest_errCount (s : State) (r : Response) : (s.completeRequest r).errCount = s.errCount := by
  unfold State.completeRequest; split <;> simp_all
@[simp] theorem State.completeRequest_lastSpeed (s : State) (r : Response) : (s.completeRequest r).lastSpeed = s.lastSpeed := by
  unfold State.completeRequest; split <;> simp_all
@[simp] theorem State.completeRequest_work (s : State) (r : Response) : (s.completeRequest r).work = s.work := by
  unfold State.completeRequest; split <;> simp_all
@[simp] theorem State.completeRequest_seen (s : State) (r : Response) : (s.completeRequest r).seen = s.seen := by
  unfold State.completeRequest; split <;> simp_all
@[simp] theorem State.completeRequest_pub (s : State) (r : Response) : (s.completeRequest r).pub = s.pub := by
  unfold State.completeRequest; split <;> simp_all
@[simp] theorem State.completeRequest_pubValid (s : State) (r : Response) : (s.completeRequest r).pubValid = s.pubValid := by
  unfold State.completeRequest; split <;> simp_all
@[simp] theorem State.completeRequest_reqPending (s : State) (r : Response) : (s.completeRequest r).reqPending = false := by
  unfold State.completeRequest; split <;> simp_all
@[simp] theorem State.completeRequest_resp (s : State) (r : Response) : (s.completeRequest r).resp = s.resp := by
  unfold State.completeRequest; split <;> simp_all
@[simp] theorem State.completeRequest_cfg (s : State) (r : Response) : (s.completeRequest r).cfg = s.cfg := by
  unfold State.completeRequest; split <;> simp_all
@[simp] theorem State.completeRequest_events (s : State) (r : Response) : (s.completeRequest r).events = s.events := by
  unfold State.completeRequest; split <;> simp_all
@[simp] theorem State.completeRequest_trace (s : State) (r : Response) : (s.completeRequest r).trace = if s.reqPending then s.trace ++ [.resp r] else s.trace := by
  unfold State.completeRequest; split <;> simp_all

/-! ### writeLanes -/

@[simp] theorem State.writeLanes_run (s : State) : s.writeLanes.run = s.run := by
  simp [State.writeLanes]
@[simp] theorem State.writeLanes_fsm (s : State) : s.writeLanes.fsm = s.fsm := by
  simp [State.writeLanes]
@[simp] theorem State.writeLanes_bodyCnt (s : State) : s.writeLanes.bodyCnt = s.bodyCnt := by
  simp [State.writeLanes]
@[simp] theorem State.writeLanes_pktIdx (s : State) : s.writeLanes.pktIdx = s.pktIdx := by
  simp [State.writeLanes]
@[simp] theorem State.writeLanes_pktBuf (s : State) : s.writeLanes.pktBuf = s.pktBuf := by
  simp [State.writeLanes]
@[simp] theorem State.writeLanes_errCount (s : State) : s.writeLanes.errCount = s.errCount := by
  simp [State.writeLanes]
@[simp] theorem State.writeLanes_lastSpeed (s : State) : s.writeLanes.lastSpeed = s.lastSpeed := by
  simp [State.writeLanes]
@[simp] theorem State.writeLanes_seen (s : State) : s.writeLanes.seen = s.seen := by
  simp [State.writeLanes]
@[simp] theorem State.writeLanes_pub (s : State) : s.writeLanes.pub = s.pub := by
  simp [State.writeLanes]
@[simp] theorem State.writeLanes_pubValid (s : State) : s.writeLanes.pubValid = s.pubValid := by
  simp [State.writeLanes]
@[simp] theorem State.writeLanes_reqPending (s : State) : s.writeLanes.reqPending = s.reqPending := by
  simp [State.writeLanes]
@[simp] theorem State.writeLanes_resp (s : State) : s.writeLanes.resp = s.resp := by
  simp [State.writeLanes]
@[simp] theorem State.writeLanes_cfg (s : State) : s.writeLanes.cfg = s.cfg := by
  simp [State.writeLanes]
@[simp] theorem State.writeLanes_events (s : State) : s.writeLanes.events = s.events := by
  simp [State.writeLanes]
@[simp] theorem State.writeLanes_trace (s : State) : s.writeLanes.trace = s.trace := by
  simp [State.writeLanes]

/-! ### publish -/

@[simp] theorem State.publish_run (s : State) : s.publish.run = s.run := by
  simp [State.publish]
@[simp] theorem State.publish_fsm (s : State) : s.publish.fsm = s.fsm := by
  simp [State.publish]
@[simp] theorem State.publish_bodyCnt (s : State) : s.publish.bodyCnt = s.bodyCnt := by
  simp [State.publish]
@[simp] theorem State.publish_pktIdx (s : State) : s.publish.pktIdx = s.pktIdx := by
  simp [State.publish]
@[simp] theorem State.publish_pktBuf (s : State) : s.publish.pktBuf = s.pktBuf := by
  simp [State.publish]
@[simp] theorem State.publish_errCount (s : State) : s.publish.errCount = s.errCount := by
  simp [State.publish]
@[simp] theorem State.publish_lastSpeed (s : State) : s.publish.lastSpeed = s.lastSpeed := by
  simp [State.publish]
@[simp] theorem State.publish_work (s : State) : s.publish.work = s.work := by
  simp [State.publish]
@[simp] theorem State.publish_seen (s : State) : s.publish.seen = s.seen := by
  simp [State.publish]
@[simp] theorem State.publish_pub (s : State) : s.publish.pub = s.work := by
  simp [State.publish]
@[simp] theorem State.publish_pubValid (s : State) : s.publish.pubValid = true := by
  simp [State.publish]
@[simp] theorem State.publish_reqPending (s : State) : s.publish.reqPending = false := by
  simp [State.publish]
@[simp] theorem State.publish_resp (s : State) : s.publish.resp = if s.reqPending then s.work else s.resp := by
  rw [State.publish, State.handOff_resp]; rfl
@[simp] theorem State.publish_cfg (s : State) : s.publish.cfg = s.cfg := by
  simp [State.publish]
@[simp] theorem State.publish_events (s : State) : s.publish.events = s.events := by
  simp [State.publish]
@[simp] theorem State.publish_trace (s : State) : s.publish.trace = if s.reqPending then s.trace ++ [.resp (.scan s.work)] else s.trace := by
  rw [State.publish, State.handOff_trace]; rfl

/-! ### store -/

@[simp] theorem State.store_run (s : State) : s.store.run = s.run := by
  simp [State.store]
@[simp] theorem State.store_fsm (s : State) : s.store.fsm = s.fsm := by
  simp [State.store]
@[simp] theorem State.store_bodyCnt (s : State) : s.store.bodyCnt = s.bodyCnt := by
  simp [State.store]
@[simp] theorem State.store_pktIdx (s : State) : s.store.pktIdx = s.pktIdx := by
  simp [State.store]
@[simp] theorem State.store_pktBuf (s : State) : s.store.pktBuf = s.pktBuf := by
  simp [State.store]
@[simp] theorem State.store_errCount (s : State) : s.store.errCount = s.errCount := by
  simp [State.store]
@[simp] theorem State.store_lastSpeed (s : State) : s.store.lastSpeed = speedRaw s.pktBuf := by
  simp [State.store]
@[simp] theorem State.store_seen (s : State) : s.store.seen = if s.cfg.fillGuard then s.seen.set s.pktIdx.val true else s.seen := by
  simp [State.store]
@[simp] theorem State.store_pub (s : State) : s.store.pub = s.pub := by
  simp [State.store]
@[simp] theorem State.store_pubValid (s : State) : s.store.pubValid = s.pubValid := by
  simp [State.store]
@[simp] theorem State.store_reqPending (s : State) : s.store.reqPending = s.reqPending := by
  simp [State.store]
@[simp] theorem State.store_resp (s : State) : s.store.resp = s.resp := by
  simp [State.store]
@[simp] theorem State.store_cfg (s : State) : s.store.cfg = s.cfg := by
  simp [State.store]
@[simp] theorem State.store_events (s : State) : s.store.events = s.events := by
  simp [State.store]
@[simp] theorem State.store_trace (s : State) : s.store.trace = s.trace := by
  simp [State.store]

/-! ### countMismatch -/

@[simp] theorem State.countMismatch_run (s : State) : s.countMismatch.run = s.run := by
  simp [State.countMismatch]
@[simp] theorem State.countMismatch_fsm (s : State) : s.countMismatch.fsm = s.fsm := by
  simp [State.countMismatch]
@[simp] theorem State.countMismatch_bodyCnt (s : State) : s.countMismatch.bodyCnt = s.bodyCnt := by
  simp [State.countMismatch]
@[simp] theorem State.countMismatch_pktIdx (s : State) : s.countMismatch.pktIdx = s.pktIdx := by
  simp [State.countMismatch]
@[simp] theorem State.countMismatch_pktBuf (s : State) : s.countMismatch.pktBuf = s.pktBuf := by
  simp [State.countMismatch]
@[simp] theorem State.countMismatch_errCount (s : State) : s.countMismatch.errCount = bumpErr s.cfg s.errCount := by
  simp [State.countMismatch]
@[simp] theorem State.countMismatch_lastSpeed (s : State) : s.countMismatch.lastSpeed = s.lastSpeed := by
  simp [State.countMismatch]
@[simp] theorem State.countMismatch_work (s : State) : s.countMismatch.work = s.work := by
  simp [State.countMismatch]
@[simp] theorem State.countMismatch_seen (s : State) : s.countMismatch.seen = s.seen := by
  simp [State.countMismatch]
@[simp] theorem State.countMismatch_pub (s : State) : s.countMismatch.pub = s.pub := by
  simp [State.countMismatch]
@[simp] theorem State.countMismatch_pubValid (s : State) : s.countMismatch.pubValid = s.pubValid := by
  simp [State.countMismatch]
@[simp] theorem State.countMismatch_reqPending (s : State) : s.countMismatch.reqPending = s.reqPending := by
  simp [State.countMismatch]
@[simp] theorem State.countMismatch_resp (s : State) : s.countMismatch.resp = s.resp := by
  simp [State.countMismatch]
@[simp] theorem State.countMismatch_cfg (s : State) : s.countMismatch.cfg = s.cfg := by
  simp [State.countMismatch]
@[simp] theorem State.countMismatch_events (s : State) : s.countMismatch.events = s.events := by
  simp [State.countMismatch]
@[simp] theorem State.countMismatch_trace (s : State) : s.countMismatch.trace = s.trace ++ [.cond (.checksumMismatch s.pktIdx (receivedChk s.pktBuf) (computedChk s.pktBuf))] := by
  simp [State.countMismatch]

/-! ### assemble and validate: the fields they never write -/

@[simp] theorem State.assemble_run (s : State) : s.assemble.run = s.run := by
  unfold State.assemble; split <;> simp
@[simp] theorem State.assemble_fsm (s : State) : s.assemble.fsm = s.fsm := by
  unfold State.assemble; split <;> simp
@[simp] theorem State.assemble_bodyCnt (s : State) : s.assemble.bodyCnt = s.bodyCnt := by
  unfold State.assemble; split <;> simp
@[simp] theorem State.assemble_pktIdx (s : State) : s.assemble.pktIdx = s.pktIdx := by
  unfold State.assemble; split <;> simp
@[simp] theorem State.assemble_pktBuf (s : State) : s.assemble.pktBuf = s.pktBuf := by
  unfold State.assemble; split <;> simp
@[simp] theorem State.assemble_errCount (s : State) : s.assemble.errCount = s.errCount := by
  unfold State.assemble; split <;> simp
@[simp] theorem State.assemble_cfg (s : State) : s.assemble.cfg = s.cfg := by
  unfold State.assemble; split <;> simp
@[simp] theorem State.assemble_events (s : State) : s.assemble.events = s.events := by
  unfold State.assemble; split <;> simp
@[simp] theorem State.validate_run (s : State) : s.validate.run = s.run := by
  unfold State.validate; split <;> simp
@[simp] theorem State.validate_fsm (s : State) : s.validate.fsm = s.fsm := by
  unfold State.validate; split <;> simp
@[simp] theorem State.validate_bodyCnt (s : State) : s.validate.bodyCnt = s.bodyCnt := by
  unfold State.validate; split <;> simp
@[simp] theorem State.validate_pktIdx (s : State) : s.validate.pktIdx = s.pktIdx := by
  unfold State.validate; split <;> simp
@[simp] theorem State.validate_pktBuf (s : State) : s.validate.pktBuf = s.pktBuf := by
  unfold State.validate; split <;> simp
@[simp] theorem State.validate_cfg (s : State) : s.validate.cfg = s.cfg := by
  unfold State.validate; split <;> simp
@[simp] theorem State.validate_events (s : State) : s.validate.events = s.events := by
  unfold State.validate; split <;> simp

end Sys2Proof.Machine
end

