-- ==== Sys2Proof/Laws/Exec.lean ====
section
/-! SUPPORT. For every instruction, all it can do: what holds when it answers a next state, and which one. Later
proofs cite these instead of unfolding a meaning. -/

namespace Sys2Proof.Machine

/-- A framer operation answers a next state exactly when it is enabled, and then the one named. -/
theorem ifSelected_next {s t t' : State} {sel : Bool} :
    s.ifSelected sel t = .next t' ↔ s.run = .running ∧ sel = true ∧ t' = t := by
  unfold State.ifSelected
  constructor
  · intro h
    split at h
    · split at h
      · cases h; exact ⟨‹_›, ‹_›, rfl⟩
      · cases h
    · cases h
  · rintro ⟨hr, hs, rfl⟩
    simp [hr, hs]

/-- A framer operation never faults. -/
theorem ifSelected_no_fault {s t : State} {sel : Bool} {f : Fault} : s.ifSelected sel t ≠ .fault f := by
  unfold State.ifSelected
  split
  · split <;> simp
  · simp

theorem execSsSync_next {s t : State} :
    execSsSync s = .next t ↔
      s.run = .running ∧ s.fsm = .seekStart ∧ t = (s.putByte 0 sentinel).goto .seekIndex := by
  simp [execSsSync, ifSelected_next]

theorem execSsDrop_next {s t : State} {b : Byte} :
    execSsDrop b s = .next t ↔
      s.run = .running ∧ (s.fsm = .seekStart ∧ b ≠ sentinel) ∧ t = s.raise (.desync (.byte b)) := by
  simp [execSsDrop, ifSelected_next]

theorem execSiIndex_next {s t : State} {b : Byte} :
    execSiIndex b s = .next t ↔
      s.run = .running ∧ (s.fsm = .seekIndex ∧ isIndexByte b = true) ∧
        t = { s.putByte 1 b with pktIdx := packetIndex b, bodyCnt := 0 }.goto .readBody := by
  simp [execSiIndex, ifSelected_next]

theorem execSiResync_next {s t : State} :
    execSiResync s = .next t ↔
      s.run = .running ∧ s.fsm = .seekIndex ∧ t = (s.putByte 0 sentinel).raise (.resync sentinel) := by
  simp [execSiResync, ifSelected_next]

theorem execSiDesync_next {s t : State} {b : Byte} :
    execSiDesync b s = .next t ↔
      s.run = .running ∧ (s.fsm = .seekIndex ∧ isIndexByte b = false ∧ b ≠ sentinel) ∧
        t = (s.goto .seekStart).raise (.desync (.byte b)) := by
  simp [execSiDesync, ifSelected_next]

theorem execRbByte_next {s t : State} {b : Byte} :
    execRbByte b s = .next t ↔
      s.run = .running ∧ (s.fsm = .readBody ∧ s.bodyCnt.val < 19) ∧
        t = { s.putByte (bodyByte s.bodyCnt) b with bodyCnt := s.bodyCnt + 1 } := by
  simp [execRbByte, ifSelected_next]

theorem execRbLast_next {s t : State} {b : Byte} :
    execRbLast b s = .next t ↔
      s.run = .running ∧ (s.fsm = .readBody ∧ s.bodyCnt.val = 19) ∧
        t = (s.putByte 21 b).validate.discardPartial := by
  simp [execRbLast, ifSelected_next]

theorem execRxTimeout_next {s t : State} :
    execRxTimeout s = .next t ↔
      s.cfg.rxTimeoutEn = true ∧
        ((s.run = .running ∧ s.fsm ≠ .seekStart ∧ t = s.discardPartial.raise (.desync .timeout)) ∨
          (¬(s.run = .running ∧ s.fsm ≠ .seekStart) ∧ t = s)) := by
  unfold execRxTimeout
  by_cases he : s.cfg.rxTimeoutEn = true
  · by_cases hc : s.run = .running ∧ s.fsm ≠ .seekStart
    · simp [he, hc, eq_comm (a := t)]
    · rw [if_pos he, if_neg hc]
      simp only [he, hc, not_false_eq_true, true_and, eq_comm (a := t), Host.Outcome.next.injEq]
      constructor
      · exact .inr
      · rintro (⟨h1, h2, -⟩ | h)
        · exact absurd ⟨h1, h2⟩ hc
        · exact h
  · simp [he]

theorem execRxDisconnect_next {s t : State} :
    execRxDisconnect s = .next t ↔
      ((s.run = .idle ∨ s.run = .running) ∧
          t = ({ s with run := .disconnected }).discardPartial.raise .disconnect) ∨
        (¬(s.run = .idle ∨ s.run = .running) ∧ t = s) := by
  unfold execRxDisconnect
  by_cases hc : s.run = .idle ∨ s.run = .running <;> simp_all [eq_comm (a := t)]

theorem execCtlStart_next {s t : State} :
    execCtlStart s = .next t ↔
      (s.run = .idle ∧ t = { s with run := .running }) ∨ (s.run ≠ .idle ∧ t = s) := by
  unfold execCtlStart
  by_cases hc : s.run = .idle <;> simp_all [eq_comm (a := t)]

theorem execCtlStop_next {s t : State} :
    execCtlStop s = .next t ↔
      (s.run ≠ .stopped ∧ t = ({ s with run := .stopped }).discardPartial.completeRequest .shutdown) ∨
        (s.run = .stopped ∧ t = s) := by
  unfold execCtlStop
  by_cases hc : s.run = .stopped <;> simp_all [eq_comm (a := t)]

theorem execHostReq_next {s t : State} :
    execHostReq s = .next t ↔
      (s.run = .stopped ∧ t = s.emit .shutdown) ∨
        (s.run ≠ .stopped ∧ s.reqPending = true ∧ t = s) ∨
        (s.run ≠ .stopped ∧ s.reqPending = false ∧ t = { s with reqPending := true }) := by
  unfold execHostReq
  by_cases hc : s.run = .stopped <;> by_cases hp : s.reqPending = true <;> simp_all [eq_comm (a := t)]

theorem execReqTimeout_next {s t : State} :
    execReqTimeout s = .next t ↔ s.cfg.reqTimeoutEn = true ∧ t = s.completeRequest .timeout := by
  unfold execReqTimeout
  by_cases he : s.cfg.reqTimeoutEn = true <;> simp_all [eq_comm (a := t)]

theorem execHostRead_next {s t : State} {addr : HostAddr} :
    execHostRead addr s = .next t ↔ t = s.reply (memRead s addr) := by
  simp [execHostRead, eq_comm (a := t)]

theorem execReset_next {s t : State} : execReset s = .next t ↔ t = (s.completeRequest .shutdown).clear := by
  simp [execReset, eq_comm (a := t)]

/-- No instruction faults: the block has no traps (R280). -/
theorem exec_no_fault (i : Instr) (s : State) (f : Fault) : exec i s ≠ .fault f := by
  cases i <;> simp only [exec]
  case ssSync => exact ifSelected_no_fault
  case ssDrop => exact ifSelected_no_fault
  case siIndex => exact ifSelected_no_fault
  case siResync => exact ifSelected_no_fault
  case siDesync => exact ifSelected_no_fault
  case rbByte => exact ifSelected_no_fault
  case rbLast => exact ifSelected_no_fault
  case rxTimeout => unfold execRxTimeout; split <;> [split <;> simp; simp]
  case rxDisconnect => unfold execRxDisconnect; split <;> simp
  case ctlStart => unfold execCtlStart; split <;> simp
  case ctlStop => unfold execCtlStop; split <;> simp
  case hostReq => unfold execHostReq; split <;> [simp; (split <;> simp)]
  case reqTimeout => unfold execReqTimeout; split <;> simp
  case hostRead => simp [execHostRead]
  case reset => simp [execReset]

end Sys2Proof.Machine
end

