-- ==== Sys2Proof/Laws/Ops.lean ====
section
/-! SUPPORT. Each shared operation's one specification: the publication, the four slot writes, the counter and the
output trace. -/

namespace Sys2Proof.Machine

/-! ### Vector reads after a write -/

theorem getElem_set_same {α : Type} {n : Nat} (v : Vector α n) (i : Fin n) (x : α) : (v.set i.val x)[i] = x := by
  simp

theorem getElem_set_other {α : Type} {n : Nat} (v : Vector α n) (i : Nat) (hi : i < n) (j : Fin n) (x : α)
    (h : i ≠ j.val) : (v.set i x)[j] = v[j] := by
  simp [h]

/-! ### The angle map (R211) -/

theorem angleOf_val (i : PktIndex) (k : Lane) : (angleOf i k).val = i.val * 4 + k.val := rfl

theorem angleOf_div (i : PktIndex) (k : Lane) : (angleOf i k).val / 4 = i.val := by
  rw [angleOf_val]; omega

theorem angleOf_mod (i : PktIndex) (k : Lane) : (angleOf i k).val % 4 = k.val := by
  rw [angleOf_val]; omega

theorem angleOf_inj {i j : PktIndex} {k l : Lane} : angleOf i k = angleOf j l ↔ i = j ∧ k = l := by
  rw [Fin.ext_iff, Fin.ext_iff, Fin.ext_iff, angleOf_val, angleOf_val]
  omega

/-- Every angle is the angle of one packet index and one lane. -/
theorem exists_angleOf (a : Angle) : ∃ i k, angleOf i k = a :=
  ⟨⟨a.val / 4, by omega⟩, ⟨a.val % 4, by omega⟩, Fin.ext (by rw [angleOf_val]; simp only; omega)⟩

/-! ### The four slot writes (R210, R212) -/

/-- The slots of the packet's own index hold its lanes; every other slot is as before. -/
theorem writeLanes_work (s : State) (a : Angle) :
    s.writeLanes.work[a] =
      if a.val / 4 = s.pktIdx.val then laneWord s.pktBuf ⟨a.val % 4, by omega⟩ else s.work[a] := by
  obtain ⟨i, k, rfl⟩ := exists_angleOf a
  have hk : (⟨(angleOf i k).val % 4, by omega⟩ : Lane) = k := Fin.ext (angleOf_mod i k)
  rw [angleOf_div, hk]
  simp only [State.writeLanes, State.writeLane_work, State.writeLane_pktIdx, State.writeLane_pktBuf]
  by_cases h : i = s.pktIdx
  · subst h
    simp only [if_true]
    match k with
    | 0 => simp [angleOf]
    | 1 => simp [angleOf]
    | 2 => simp [angleOf]
    | 3 => simp [angleOf]
  · have hv : i.val ≠ s.pktIdx.val := fun hh => h (Fin.ext hh)
    rw [if_neg hv]
    have hne (l : Lane) : (angleOf s.pktIdx l).val ≠ (angleOf i k).val := by
      rw [angleOf_val, angleOf_val]; omega
    simp [hne]

@[simp] theorem store_work (s : State) (a : Angle) :
    s.store.work[a] =
      if a.val / 4 = s.pktIdx.val then laneWord s.pktBuf ⟨a.val % 4, by omega⟩ else s.work[a] := by
  simp only [State.store, State.markSeen_work]
  exact writeLanes_work _ a

/-- The fill record of a stored packet: its own index is added when FILL_GUARD is true (R210, R37). -/
theorem store_seen_at (s : State) (j : PktIndex) :
    s.store.seen[j] = (s.seen[j] || (s.cfg.fillGuard && j == s.pktIdx)) := by
  rw [State.store_seen]
  by_cases hg : s.cfg.fillGuard = true
  · rw [if_pos hg, hg]
    by_cases h : j = s.pktIdx
    · subst h
      simp
    · rw [getElem_set_other _ _ _ _ _ (fun hh => h (Fin.ext hh.symm))]
      simp [h]
  · rw [if_neg hg]
    simp [hg]

/-! ### Assemble and validate: all they can do -/

theorem assemble_of_done {s : State} (h : s.store.revolutionDone = true) : s.assemble = s.store.publish := by
  simp [State.assemble, h]

theorem assemble_of_not_done {s : State} (h : s.store.revolutionDone = false) : s.assemble = s.store := by
  simp [State.assemble, h]

theorem validate_of_pass {s : State} (h : packetPasses s.pktBuf = true) : s.validate = s.assemble := by
  simp [State.validate, h]

theorem validate_of_fail {s : State} (h : packetPasses s.pktBuf = false) : s.validate = s.countMismatch := by
  simp [State.validate, h]

/-- RB_LAST's three outcomes: a publication, a packet stored without one, a mismatch counted. -/
theorem validate_cases (s : State) :
    (packetPasses s.pktBuf = true ∧ s.store.revolutionDone = true ∧ s.validate = s.store.publish) ∨
      (packetPasses s.pktBuf = true ∧ s.store.revolutionDone = false ∧ s.validate = s.store) ∨
      (packetPasses s.pktBuf = false ∧ s.validate = s.countMismatch) := by
  cases hp : packetPasses s.pktBuf
  · exact .inr (.inr ⟨rfl, validate_of_fail hp⟩)
  · cases hd : s.store.revolutionDone
    · exact .inr (.inl ⟨rfl, rfl, by rw [validate_of_pass hp, assemble_of_not_done hd]⟩)
    · exact .inl ⟨rfl, rfl, by rw [validate_of_pass hp, assemble_of_done hd]⟩

theorem allSeen_iff (v : FillRecord) : allSeen v = true ↔ ∀ i : PktIndex, v[i] = true := by
  simp only [allSeen, Vector.all_eq_true, id_eq]
  exact ⟨fun h i => h i.val i.isLt, fun h i hi => h ⟨i, hi⟩⟩

/-- Validation passes exactly when the received 16 bits are the computed 15, zero-extended (R136). -/
theorem packetPasses_iff {buf : PktBuf} :
    packetPasses buf = true ↔ receivedChk buf = (computedChk buf).setWidth 16 := by
  simp [packetPasses]

theorem packetPasses_false_iff {buf : PktBuf} :
    packetPasses buf = false ↔ receivedChk buf ≠ (computedChk buf).setWidth 16 := by
  rw [Bool.eq_false_iff, ne_eq, packetPasses_iff]

/-- The revolution detector of a stored packet (R210, R213, R217). -/
theorem store_revolutionDone (s : State) :
    s.store.revolutionDone = true ↔
      s.pktIdx = lastIdx ∧ (s.cfg.fillGuard = true → ∀ i : PktIndex, i ≠ lastIdx → s.seen[i] = true) := by
  simp only [State.revolutionDone, State.store_pktIdx, State.store_cfg, State.store_seen, Bool.and_eq_true,
    beq_iff_eq, Bool.or_eq_true, Bool.not_eq_true', and_congr_right_iff]
  intro hi
  cases hg : s.cfg.fillGuard
  · simp
  · simp only [Bool.true_eq_false, false_or, if_true, allSeen_iff, hi, forall_const]
    constructor
    · intro h i hne
      have := h i
      rwa [getElem_set_other _ _ (by omega) _ _ (fun hh => hne (Fin.ext hh.symm))] at this
    · intro h i
      by_cases hne : i = lastIdx
      · subst hne
        exact getElem_set_same s.seen lastIdx true
      · rw [getElem_set_other _ _ (by omega) _ _ (fun hh => hne (Fin.ext hh.symm))]
        exact h i hne

/-! ### The error counter (R30) -/

theorem bumpErr_toNat {cfg : Config} (h : cfg.errW ≤ 32) (e : Word) :
    (bumpErr cfg e).toNat = (e.toNat + 1) % 2 ^ cfg.errW := by
  have hp : 2 ^ cfg.errW ≤ 2 ^ 32 := Nat.pow_le_pow_right (by omega) h
  have hm : (e.toNat + 1) % 2 ^ cfg.errW < 2 ^ cfg.errW := Nat.mod_lt _ (Nat.two_pow_pos _)
  rw [bumpErr, BitVec.toNat_ofNat, Nat.mod_eq_of_lt (by omega)]

theorem bumpErr_lt (cfg : Config) (e : Word) : (bumpErr cfg e).toNat < 2 ^ cfg.errW := by
  rw [bumpErr, BitVec.toNat_ofNat]
  exact Nat.lt_of_le_of_lt (Nat.mod_le _ _) (Nat.mod_lt _ (Nat.two_pow_pos _))

theorem Config.errW_le {cfg : Config} (h : cfg.legal = true) : cfg.errW ≤ 32 := by
  simp [Config.legal] at h
  exact h.2

/-! ### Index arithmetic (R153) -/

theorem packetIndex_val {b : Byte} (h : isIndexByte b = true) : (packetIndex b).val = b.toNat - 0xA0 := by
  simp only [isIndexByte, Bool.and_eq_true, decide_eq_true_eq, BitVec.le_def] at h
  have h2 : b.toNat ≤ 0xF9 := h.2
  simp only [packetIndex, Fin.ofNat_eq_cast, Fin.val_natCast]
  have h3 : idxLo.toNat = 0xA0 := rfl
  omega

theorem isIndexByte_iff (b : Byte) : isIndexByte b = true ↔ 0xA0 ≤ b.toNat ∧ b.toNat ≤ 0xF9 := by
  simp only [isIndexByte, Bool.and_eq_true, decide_eq_true_eq, BitVec.le_def]
  exact Iff.rfl

end Sys2Proof.Machine
end

