-- ==== Sys2Proof/Laws/PerInstr.lean ====
section
/-! SUPPORT. The family TableRow: the word of an instruction matches its row of spec/opcode_table.json. -/

namespace Sys2Proof.Laws.TableRow

/-- The instruction's word agrees with its row's "match" on the bits of its row's "mask". -/
def Statement (i : Instr) : Prop := encode i &&& i.tableMask = i.tableMatch

/-- A byte's word has nothing above bit 7. -/
theorem byteWord_mask (b : Byte) : byteWord b &&& 0xFFFFFF00#32 = 0x00000000#32 := by
  have h (i : Nat) (hi : i < 32) : (0xFFFFFF00#32).getLsbD i = decide (8 ≤ i) := by
    have : ∀ i : Fin 32, (0xFFFFFF00#32).getLsbD i.val = decide (8 ≤ i.val) := by decide
    exact this ⟨i, hi⟩
  apply BitVec.eq_of_getLsbD_eq
  intro i hi
  rw [BitVec.getLsbD_and, h i hi]
  by_cases h8 : 8 ≤ i
  · have hb : b.getLsbD i = false := BitVec.getLsbD_of_ge _ _ h8
    simp [byteWord, eventWord, hb]
  · simp [h8]

/-- HOST_READ's address leaves the class alone. -/
theorem hostRead_mask (a : HostAddr) : eventWord classHostRead a &&& 0xFF000000#32 = 0x30000000#32 := by
  have h (i : Nat) (hi : i < 32) : (0xFF000000#32).getLsbD i = decide (24 ≤ i) := by
    have : ∀ i : Fin 32, (0xFF000000#32).getLsbD i.val = decide (24 ≤ i.val) := by decide
    exact this ⟨i, hi⟩
  have h30 (i : Nat) (hi : i < 32) :
      (0x30000000#32).getLsbD i = (decide (24 ≤ i) && (0x30#8).getLsbD (i - 24)) := by
    have : ∀ i : Fin 32,
        (0x30000000#32).getLsbD i.val = (decide (24 ≤ i.val) && (0x30#8).getLsbD (i.val - 24)) := by decide
    exact this ⟨i, hi⟩
  apply BitVec.eq_of_getLsbD_eq
  intro i hi
  rw [BitVec.getLsbD_and, h i hi, h30 i hi]
  by_cases h24 : 24 ≤ i
  · have ha : a.getLsbD i = false := BitVec.getLsbD_of_ge _ _ h24
    have h3 : i - 24 < 32 := by omega
    have h4 : ¬ i < 24 := by omega
    simp only [eventWord, classHostRead, BitVec.getLsbD_or, BitVec.getLsbD_shiftLeft, BitVec.getLsbD_setWidth,
      ha, hi, h3, h4, h24, decide_true, decide_false, Bool.true_and, Bool.and_true, Bool.not_false,
      Bool.and_false, Bool.or_false]
  · simp [h24]

theorem ssSync : Statement .ssSync := by unfold Statement; decide
theorem ssDrop (b : Byte) : Statement (.ssDrop b) := byteWord_mask b
theorem siIndex (b : Byte) : Statement (.siIndex b) := byteWord_mask b
theorem siResync : Statement .siResync := by unfold Statement; decide
theorem siDesync (b : Byte) : Statement (.siDesync b) := byteWord_mask b
theorem rbByte (b : Byte) : Statement (.rbByte b) := byteWord_mask b
theorem rbLast (b : Byte) : Statement (.rbLast b) := byteWord_mask b
theorem rxTimeout : Statement .rxTimeout := by unfold Statement; decide
theorem rxDisconnect : Statement .rxDisconnect := by unfold Statement; decide
theorem ctlStart : Statement .ctlStart := by unfold Statement; decide
theorem ctlStop : Statement .ctlStop := by unfold Statement; decide
theorem hostReq : Statement .hostReq := by unfold Statement; decide
theorem reqTimeout : Statement .reqTimeout := by unfold Statement; decide
theorem hostRead (addr : HostAddr) : Statement (.hostRead addr) := hostRead_mask addr
theorem reset : Statement .reset := by unfold Statement; decide

end Sys2Proof.Laws.TableRow
end

