-- ==== Sys2Proof/Laws/Step.lean ====
section
/-! SUPPORT. All a step can do: take one event, and run what it decodes to. -/

namespace Sys2Proof.Machine

/-! ### Which event is taken (R240, R326) -/

@[simp] theorem takeEvent_nil (ready : Bool) : takeEvent ready [] = none := rfl

/-- A ready block takes the first word. -/
@[simp] theorem takeEvent_ready (w : EventWord) (rest : List EventWord) :
    takeEvent true (w :: rest) = some (w, rest) := by
  simp [takeEvent]

/-- A block that is not ready takes a first word that is no byte. -/
theorem takeEvent_other {w : EventWord} (h : isByteEvent w = false) (ready : Bool) (rest : List EventWord) :
    takeEvent ready (w :: rest) = some (w, rest) := by
  simp [takeEvent, h]

/-- A block that is not ready leaves a byte where it is (R240). -/
theorem takeEvent_held {w : EventWord} (h : isByteEvent w = true) (rest : List EventWord) :
    takeEvent false (w :: rest) = (takeEvent false rest).map fun p => (p.1, w :: p.2) := by
  simp [takeEvent, h]

/-- The word taken was offered, and the rest is what was offered without it, in order. -/
theorem takeEvent_split {ready : Bool} {ws : List EventWord} {w : EventWord} {rest : List EventWord}
    (h : takeEvent ready ws = some (w, rest)) :
    ∃ held tail, ws = held ++ w :: tail ∧ rest = held ++ tail ∧ (∀ v ∈ held, isByteEvent v = true) ∧
      (ready = true → held = []) ∧ (ready = false → isByteEvent w = false) := by
  induction ws generalizing rest with
  | nil => simp at h
  | cons v vs ih =>
    unfold takeEvent at h
    split at h
    · rename_i hc
      simp only [Bool.and_eq_true, Bool.not_eq_true'] at hc
      rw [Option.map_eq_some_iff] at h
      obtain ⟨⟨w', r⟩, hr, he⟩ := h
      simp only [Prod.mk.injEq] at he
      obtain ⟨rfl, rfl⟩ := he
      obtain ⟨held, tail, rfl, rfl, hh, -, hw⟩ := ih hr
      exact ⟨v :: held, tail, rfl, rfl, by simpa [hc.2] using hh, by simp [hc.1], hw⟩
    · rename_i hc
      simp only [Option.some.injEq, Prod.mk.injEq] at h
      obtain ⟨rfl, rfl⟩ := h
      refine ⟨[], vs, rfl, rfl, by simp, fun _ => rfl, fun hf => ?_⟩
      simpa [hf] using hc

/-- The state after taking an event differs in the offered events only. -/
theorem nextEvent_state {s t : State} {w : EventWord} (h : s.nextEvent = some (w, t)) :
    ∃ rest, takeEvent s.ready s.events = some (w, rest) ∧ t = { s with events := rest } := by
  simp only [State.nextEvent, Option.map_eq_some_iff, Prod.mk.injEq] at h
  obtain ⟨⟨w', rest⟩, hr, rfl, rfl⟩ := h
  exact ⟨rest, hr, rfl⟩

/-- A running block takes the first word offered. -/
theorem nextEvent_running {s : State} (hr : s.run = .running) {w : EventWord} {rest : List EventWord}
    (he : s.events = w :: rest) : s.nextEvent = some (w, { s with events := rest }) := by
  simp [State.nextEvent, State.ready, hr, he]

/-! ### The step -/

/-- A step that answers a next state took one event, and ran its instruction. -/
theorem step_next {s t : State} (h : step s = .next t) :
    ∃ w s' i, s.nextEvent = some (w, s') ∧ s'.decodeEvent w = .ok i ∧ exec i s' = .next t := by
  unfold step at h
  split at h
  · cases h
  · split at h
    · cases h
    · exact ⟨_, _, _, ‹_›, ‹_›, h⟩

/-- A step with an event to take that decodes to i is the meaning of i. -/
theorem step_of_decode {s s' : State} {w : EventWord} {i : Instr} (hn : s.nextEvent = some (w, s'))
    (hd : s'.decodeEvent w = .ok i) : step s = exec i s' := by
  simp [step, hn, hd]

/-- A running block given a byte performs the operation the byte map selects (R150). -/
theorem step_byte {s : State} (hr : s.run = .running) {b : Byte} {rest : List EventWord}
    (he : s.events = byteWord b :: rest) :
    step s = exec (byteOp s.fsm s.bodyCnt b) { s with events := rest } :=
  step_of_decode (nextEvent_running hr he) (by simp [State.decodeEvent])

end Sys2Proof.Machine
end

