-- ==== Sys2Proof/Laws/Run.lean ====
section
/-! SUPPORT. Runs of many steps in terms of one step, and what no step changes. -/

namespace Sys2Proof.Machine

/-! ### Runs -/

theorem run_zero (s : State) : Host.Core.run Sys2Proof.core 0 s = .next s := rfl

/-- A run's first step. -/
theorem run_of_step {n : Nat} {s t : State} (h : step s = .next t) :
    Host.Core.run Sys2Proof.core (n + 1) s = Host.Core.run Sys2Proof.core n t := by
  have h' : Sys2Proof.core.step s = .next t := h
  simp only [Host.Core.run, h']

/-- A run that goes on took a step that goes on. -/
theorem run_succ_next {n : Nat} {s t : State} (h : Host.Core.run Sys2Proof.core (n + 1) s = .next t) :
    ∃ s', step s = .next s' ∧ Host.Core.run Sys2Proof.core n s' = .next t := by
  simp only [Host.Core.run] at h
  split at h
  · exact ⟨_, ‹_›, h⟩
  · cases h
  · cases h

/-- Two runs one after the other. -/
theorem run_add {m n : Nat} {s t : State} (h : Host.Core.run Sys2Proof.core m s = .next t) :
    Host.Core.run Sys2Proof.core (m + n) s = Host.Core.run Sys2Proof.core n t := by
  induction m generalizing s with
  | zero => cases h; rw [Nat.zero_add]
  | succ m ih =>
    obtain ⟨s', hs, hr⟩ := run_succ_next h
    rw [Nat.add_right_comm, run_of_step hs]
    exact ih hr

/-! ### What no instruction changes -/

/-- No instruction changes the parameters or the words still offered (R11; log 1, log 4). -/
theorem exec_keeps {i : Instr} {s t : State} (h : exec i s = .next t) : t.events = s.events ∧ t.cfg = s.cfg := by
  cases i <;> simp only [exec] at h
  case ssSync => obtain ⟨-, -, rfl⟩ := execSsSync_next.1 h; simp
  case ssDrop => obtain ⟨-, -, rfl⟩ := execSsDrop_next.1 h; simp
  case siIndex => obtain ⟨-, -, rfl⟩ := execSiIndex_next.1 h; simp
  case siResync => obtain ⟨-, -, rfl⟩ := execSiResync_next.1 h; simp
  case siDesync => obtain ⟨-, -, rfl⟩ := execSiDesync_next.1 h; simp
  case rbByte => obtain ⟨-, -, rfl⟩ := execRbByte_next.1 h; simp
  case rbLast => obtain ⟨-, -, rfl⟩ := execRbLast_next.1 h; simp
  case rxTimeout => obtain ⟨-, ⟨-, -, rfl⟩ | ⟨-, rfl⟩⟩ := execRxTimeout_next.1 h <;> simp
  case rxDisconnect => obtain ⟨-, rfl⟩ | ⟨-, rfl⟩ := execRxDisconnect_next.1 h <;> simp
  case ctlStart => obtain ⟨-, rfl⟩ | ⟨-, rfl⟩ := execCtlStart_next.1 h <;> simp
  case ctlStop => obtain ⟨-, rfl⟩ | ⟨-, rfl⟩ := execCtlStop_next.1 h <;> simp
  case hostReq => obtain ⟨-, rfl⟩ | ⟨-, -, rfl⟩ | ⟨-, -, rfl⟩ := execHostReq_next.1 h <;> simp
  case reqTimeout => obtain ⟨-, rfl⟩ := execReqTimeout_next.1 h; simp
  case hostRead => obtain rfl := execHostRead_next.1 h; simp
  case reset => obtain rfl := execReset_next.1 h; simp

/-- RB_LAST's three outcomes: a publication, a packet stored without one, a mismatch counted. -/
theorem execRbLast_cases {s t : State} {b : Byte} (h : execRbLast b s = .next t) :
    s.run = .running ∧ s.fsm = .readBody ∧ s.bodyCnt.val = 19 ∧
      ((s.pktIdx = lastIdx ∧ packetPasses (s.putByte 21 b).pktBuf = true ∧
          t = (s.putByte 21 b).store.publish.discardPartial) ∨
        (packetPasses (s.putByte 21 b).pktBuf = true ∧ t = (s.putByte 21 b).store.discardPartial) ∨
        (packetPasses (s.putByte 21 b).pktBuf = false ∧ t = (s.putByte 21 b).countMismatch.discardPartial)) := by
  obtain ⟨hr, ⟨hf, hc⟩, rfl⟩ := execRbLast_next.1 h
  refine ⟨hr, hf, hc, ?_⟩
  obtain ⟨hp, hd, he⟩ | ⟨hp, -, he⟩ | ⟨hp, he⟩ := validate_cases (s.putByte 21 b)
  · exact .inl ⟨((store_revolutionDone _).1 hd).1, hp, by rw [he]⟩
  · exact .inr (.inl ⟨hp, by rw [he]⟩)
  · exact .inr (.inr ⟨hp, by rw [he]⟩)

/-- Completing a request as one record update. -/
theorem completeRequest_eq (s : State) (r : Response) :
    s.completeRequest r =
      { s with reqPending := false, trace := s.trace ++ (if s.reqPending then [.resp r] else []) } := by
  cases s with
  | mk run fsm bodyCnt pktIdx pktBuf errCount lastSpeed work seen pub pubValid reqPending resp cfg events trace =>
    cases reqPending <;> simp [State.completeRequest, State.emit]

end Sys2Proof.Machine
end

