-- ==== Sys2Proof/Tests/Slice0.lean ====
section
/-! SUPPORT. The model's own tests: small, one step each, with expected values from spec/95_test_vectors.md (the row is
named at each test) and words written out from 30_encoding.md; then, for every statement with hypotheses, a concrete
state and operands that meet them. -/

namespace Sys2Proof.Tests

open Sys2Proof.Machine

/-! ### Test data -/

/-- A running block at a parser position. -/
def on (f : Fsm) (c : BodyCount) : State := { State.reset with run := .running, fsm := f, bodyCnt := c }

/-- The packet of CHK-12: index 0. -/
def packet0 : PktBuf :=
  #v[0xFA, 0xA0, 0x00, 0x4B, 0x34, 0x12, 0x56, 0x00, 0xE8, 0x03, 0xC8, 0x00, 0xD0, 0x47, 0x32, 0x00, 0x35, 0x80, 0x00,
    0x00, 0xE5, 0x6F]

/-- The packet of CHK-13: index 89. -/
def packet89 : PktBuf :=
  #v[0xFA, 0xF9, 0x00, 0x4B, 0x64, 0x00, 0x0A, 0x00, 0xC8, 0x00, 0x14, 0x00, 0x2C, 0x01, 0x1E, 0x00, 0x90, 0x01, 0x28,
    0x00, 0x5E, 0x54]

/-- A running block that waits for the last byte of a packet. -/
def waiting (i : PktIndex) (p : PktBuf) : State := { on .readBody 19 with pktIdx := i, pktBuf := p.set 21 0x00 }

/-- One field of what an outcome answers, if it is a next state. -/
def field {α : Type} (f : State → α) : Host.Outcome State Fault Refusal → Option α
  | .next t => some (f t)
  | .fault _ => none
  | .refused _ => none

/-- What an outcome refuses with, if it refuses. -/
def refusal : Host.Outcome State Fault Refusal → Option Refusal
  | .next _ => none
  | .fault _ => none
  | .refused r => some r

/-- The conditions, requests and data of a trace, without the scans. -/
def label : Output → Option Condition
  | .cond c => some c
  | .resp _ => none
  | .data _ => none

/-! ### WellFormed: an ill-formed term for each check -/

theorem test_ssDrop_of_sentinel_refused : (Instr.ssDrop 0xFA#8).wf = false := by decide
theorem test_siIndex_below_refused : (Instr.siIndex 0x9F#8).wf = false := by decide
theorem test_siIndex_above_refused : (Instr.siIndex 0xFA#8).wf = false := by decide
theorem test_siDesync_of_index_refused : (Instr.siDesync 0xA0#8).wf = false ∧ (Instr.siDesync 0xF9#8).wf = false := by
  decide
theorem test_siDesync_of_sentinel_refused : (Instr.siDesync 0xFA#8).wf = false := by decide
theorem test_boundary_bytes_wellformed :
    (Instr.siIndex 0xA0#8).wf = true ∧ (Instr.siIndex 0xF9#8).wf = true ∧ (Instr.siDesync 0x9F#8).wf = true ∧
      (Instr.siDesync 0xFB#8).wf = true ∧ (Instr.ssDrop 0xFB#8).wf = true := by decide

/-! ### Decode: a word of every constructor, bit by bit (class | bits 23 to 8 | bits 7 to 0) -/

theorem test_decode_ssSync :
    decode Config.baseline .seekStart 0 0b00000000_0000000000000000_11111010#32 = .ok .ssSync := by decide
theorem test_decode_ssDrop :
    decode Config.baseline .seekStart 0 0b00000000_0000000000000000_10100000#32 = .ok (.ssDrop 0xA0#8) := by decide
theorem test_decode_siIndex :
    decode Config.baseline .seekIndex 0 0b00000000_0000000000000000_11111001#32 = .ok (.siIndex 0xF9#8) := by decide
theorem test_decode_siResync :
    decode Config.baseline .seekIndex 0 0b00000000_0000000000000000_11111010#32 = .ok .siResync := by decide
theorem test_decode_siDesync :
    decode Config.baseline .seekIndex 0 0b00000000_0000000000000000_10011111#32 = .ok (.siDesync 0x9F#8) := by decide
theorem test_decode_rbByte :
    decode Config.baseline .readBody 18 0b00000000_0000000000000000_10100101#32 = .ok (.rbByte 0xA5#8) := by decide
theorem test_decode_rbLast :
    decode Config.baseline .readBody 19 0b00000000_0000000000000000_01101111#32 = .ok (.rbLast 0x6F#8) := by decide
theorem test_decode_rxTimeout :
    decode Config.withTimeouts .readBody 5 0b00000001_0000000000000000_00000000#32 = .ok .rxTimeout := by decide
theorem test_decode_rxDisconnect :
    decode Config.baseline .seekIndex 0 0b00000010_0000000000000000_00000000#32 = .ok .rxDisconnect := by decide
theorem test_decode_ctlStart :
    decode Config.baseline .seekStart 0 0b00010000_0000000000000000_00000000#32 = .ok .ctlStart := by decide
theorem test_decode_ctlStop :
    decode Config.baseline .seekStart 0 0b00010001_0000000000000000_00000000#32 = .ok .ctlStop := by decide
theorem test_decode_hostReq :
    decode Config.baseline .seekStart 0 0b00100000_0000000000000000_00000000#32 = .ok .hostReq := by decide
theorem test_decode_reqTimeout :
    decode Config.withTimeouts .seekStart 0 0b00100001_0000000000000000_00000000#32 = .ok .reqTimeout := by decide
theorem test_decode_hostRead :
    decode Config.baseline .seekStart 0 0b00110000_0000000000001001_10010000#32 = .ok (.hostRead 0x000990#24) := by
  decide
theorem test_decode_reset :
    decode Config.baseline .seekStart 0 0b11110000_0000000000000000_00000000#32 = .ok .reset := by decide

/-- IL-1 to IL-8. -/
theorem test_decode_illegal :
    decode Config.withTimeouts .seekStart 0 0x000001FA#32 = .error .nonzeroPayload ∧
    decode Config.withTimeouts .seekStart 0 0x03000000#32 = .error .unknownClass ∧
    decode Config.withTimeouts .seekStart 0 0xFF000000#32 = .error .unknownClass ∧
    decode Config.baseline .seekStart 0 0x01000000#32 = .error .rxTimeoutDisabled ∧
    decode Config.baseline .seekStart 0 0x21000000#32 = .error .reqTimeoutDisabled ∧
    decode Config.withTimeouts .seekStart 0 0x10000001#32 = .error .nonzeroPayload ∧
    decode Config.withTimeouts .seekStart 0 0xF0000001#32 = .error .nonzeroPayload ∧
    decode Config.withTimeouts .seekStart 0 0x30FFFFFF#32 = .ok (.hostRead 0xFFFFFF#24) := by decide

/-- The table's words for the rows that a word alone determines. -/
theorem test_decodeTableWord :
    decodeTableWord 32 0x000000FA = some .ssSync ∧ decodeTableWord 32 0x01000000 = some .rxTimeout ∧
    decodeTableWord 32 0x30000000 = some (.hostRead 0) ∧ decodeTableWord 32 0x03000000 = none := by decide

/-! ### Checksum, readings, speed -/

/-- CHK-1, CHK-2, CHK-4 and CHK-12: the result. -/
theorem test_checksum :
    checksum (List.replicate 20 0x00#8) = 0x0000#15 ∧ checksum (List.replicate 20 0xFF#8) = 0x03FE#15 ∧
    checksum (List.replicate 18 0x00#8 ++ [0xFF#8, 0xFF#8]) = 0x0000#15 ∧ computedChk packet0 = 0x6FE5#15 := by decide

/-- CHK-5 against CHK-7: the weights of the first and the last word. -/
theorem test_checksum_weights :
    checksum (0x01#8 :: List.replicate 19 0x00#8) = 0x0200#15 ∧
    checksum (List.replicate 18 0x00#8 ++ [0x01#8, 0x00#8]) = 0x0001#15 := by decide

/-- The validation table of section 2.1: only E5 6F passes. -/
theorem test_validation :
    packetPasses packet0 = true ∧ packetPasses (packet0.set 20 0xE6) = false ∧
    packetPasses (packet0.set 21 0xEF) = false ∧ packetPasses ((packet0.set 20 0x6F).set 21 0xE5) = false := by decide

/-- DEC-1, DEC-6 and DEC-7. -/
theorem test_readings :
    readingOf (decodeReading 0x34 0x12 0x56 0x00) = ⟨4660, false, false, 86⟩ ∧
    readingOf (decodeReading 0x88 0x53 0x34 0x12) = ⟨5000, true, false, 4660⟩ ∧
    readingOf (decodeReading 0x10 0xC0 0x01 0x00) = ⟨16, true, true, 1⟩ := by decide

/-- S4: 0x4B01 is 300 and 1/64 RPM. -/
theorem test_speed : rpmWhole 0x4B01 = 300#10 ∧ rpmFraction 0x4B01 = 1#6 := by decide

/-- P6: the bytes of PACKET 10. -/
theorem test_packet_notation :
    packetBytes 10 0x4B40 ⟨0x21, false, true, 0⟩ ⟨5000, true, false, 0x1234⟩ ⟨16383, false, false, 0xFFFF⟩
        ⟨0, false, false, 0⟩ =
      [0xFA, 0xAA, 0x40, 0x4B, 0x21, 0x80, 0x00, 0x00, 0x88, 0x53, 0x34, 0x12, 0xFF, 0x3F, 0xFF, 0xFF, 0x00, 0x00, 0x00,
        0x00, 0x99, 0x5C] := by decide

/-! ### One step of each instruction -/

/-- FR-1. -/
theorem test_ssSync :
    field (fun t => (t.fsm, t.pktBuf[0], t.trace)) (exec .ssSync (on .seekStart 0)) =
      some (.seekIndex, 0xFA#8, []) := by decide
/-- FR-3: an index byte in SEEK_START is dropped. -/
theorem test_ssDrop :
    field (fun t => (t.fsm, t.pktIdx, t.trace)) (exec (.ssDrop 0xA0#8) (on .seekStart 0)) =
      some (.seekStart, 0, [.cond (.desync (.byte 0xA0#8))]) := by decide
/-- FR-6 and FR-7. -/
theorem test_siIndex :
    field (fun t => (t.fsm, t.bodyCnt, t.pktIdx, t.pktBuf[1])) (exec (.siIndex 0xF9#8) (on .seekIndex 0)) =
      some (.readBody, 0, 89, 0xF9#8) ∧
    field (fun t => t.pktIdx) (exec (.siIndex 0xC3#8) (on .seekIndex 0)) = some 35 := by decide
/-- FR-8. -/
theorem test_siResync :
    field (fun t => (t.fsm, t.pktBuf[0], t.trace)) (exec .siResync (on .seekIndex 0)) =
      some (.seekIndex, 0xFA#8, [.cond (.resync 0xFA#8)]) := by decide
/-- FR-10. -/
theorem test_siDesync :
    field (fun t => (t.fsm, t.pktBuf[1], t.trace)) (exec (.siDesync 0xFB#8) (on .seekIndex 0)) =
      some (.seekStart, 0x00#8, [.cond (.desync (.byte 0xFB#8))]) := by decide
/-- FR-12: a sentinel inside the body is data. -/
theorem test_rbByte_first :
    field (fun t => (t.fsm, t.bodyCnt, t.pktBuf[2])) (exec (.rbByte 0xFA#8) (on .readBody 0)) =
      some (.readBody, 1, 0xFA#8) := by decide
/-- FR-12a. -/
theorem test_rbByte_before_last :
    field (fun t => (t.bodyCnt, t.pktBuf[20])) (exec (.rbByte 0xA5#8) (on .readBody 18)) = some (19, 0xA5#8) := by
  decide
/-- FR-13; FR-14 and FR-15: the counter wraps. -/
theorem test_rbLast :
    field (fun t => (t.fsm, t.bodyCnt, t.lastSpeed, t.work[0], t.work[1], t.work[2], t.work[3], t.work[4]))
        (exec (.rbLast 0x6F#8) (waiting 0 packet0)) =
      some (.seekStart, 0, 0x4B00#16, 0x00561234#32, 0x00C803E8#32, 0x003247D0#32, 0x00008035#32, 0#32) ∧
    field (fun t => (t.fsm, t.errCount, t.lastSpeed, t.work[0], t.trace))
        (exec (.rbLast 0x70#8) { waiting 0 packet0 with errCount := 0xFFFFFFFF#32 }) =
      some (.seekStart, 0#32, 0#16, 0#32, [.cond (.checksumMismatch 0 0x70E5#16 0x6FE5#15)]) :=
  ⟨by decide +kernel, by decide +kernel⟩
/-- ASM-4: publication and hand-off; ASM-8: with FILL_GUARD, packet 89 alone does not publish. -/
theorem test_rbLast_publication :
    field (fun t => (t.pub[356], t.resp[359], t.pub[0], t.pubValid, t.reqPending, t.trace.length))
        (exec (.rbLast 0x54#8) { waiting 89 packet89 with reqPending := true }) =
      some (0x000A0064#32, 0x00280190#32, 0#32, true, false, 1) ∧
    field (fun t => (t.work[356], t.seen[89], t.seen[88], t.pubValid, t.reqPending))
        (exec (.rbLast 0x54#8)
          { waiting 89 packet89 with reqPending := true, cfg := { Config.baseline with fillGuard := true } }) =
      some (0x000A0064#32, true, false, false, true) :=
  ⟨by decide +kernel, by decide +kernel⟩
/-- EV-18. -/
theorem test_rxTimeout :
    field (fun t => (t.run, t.fsm, t.errCount, t.trace))
        (exec .rxTimeout { on .seekIndex 0 with cfg := Config.withTimeouts }) =
      some (.running, .seekStart, 0#32, [.cond (.desync .timeout)]) := by decide
/-- EV-19. -/
theorem test_rxTimeout_idle_parser :
    field (fun t => (t.fsm, t.trace)) (exec .rxTimeout { on .seekStart 0 with cfg := Config.withTimeouts }) =
      some (.seekStart, []) := by decide
/-- EV-5. -/
theorem test_rxDisconnect :
    field (fun t => (t.run, t.fsm, t.bodyCnt, t.trace)) (exec .rxDisconnect (on .readBody 7)) =
      some (.disconnected, .seekStart, 0, [.cond .disconnect]) := by decide
/-- EV-7. -/
theorem test_rxDisconnect_stopped :
    field (fun t => (t.run, t.trace)) (exec .rxDisconnect { State.reset with run := .stopped }) =
      some (.stopped, []) := by decide
/-- EV-1 and EV-3. -/
theorem test_ctlStart :
    field (fun t => t.run) (exec .ctlStart State.reset) = some .running ∧
    field (fun t => t.run) (exec .ctlStart { State.reset with run := .stopped }) = some .stopped := by decide
/-- EV-8. -/
theorem test_ctlStop :
    field (fun t => (t.run, t.fsm, t.bodyCnt, t.reqPending, t.trace))
        (exec .ctlStop { on .readBody 2 with reqPending := true }) =
      some (.stopped, .seekStart, 0, false, [.resp .shutdown]) := by decide
/-- EV-10. -/
theorem test_ctlStop_idle :
    field (fun t => (t.run, t.trace)) (exec .ctlStop State.reset) = some (.stopped, []) := by decide
/-- EV-12 and EV-15: a request waits. -/
theorem test_hostReq :
    field (fun t => (t.reqPending, t.trace)) (exec .hostReq (on .seekStart 0)) = some (true, []) ∧
    field (fun t => (t.reqPending, t.trace)) (exec .hostReq State.reset) = some (true, []) := by decide
/-- EV-14. -/
theorem test_hostReq_stopped :
    field (fun t => (t.reqPending, t.trace)) (exec .hostReq { State.reset with run := .stopped }) =
      some (false, [.resp .shutdown]) := by decide
/-- EV-16. -/
theorem test_reqTimeout :
    field (fun t => (t.reqPending, t.trace))
        (exec .reqTimeout { State.reset with reqPending := true, cfg := Config.withTimeouts }) =
      some (false, [.resp .timeout]) := by decide

/-- A state whose windows hold known words. -/
def windows : State :=
  { State.reset with
    errCount := 7, lastSpeed := 0x4B00
    resp := (Vector.replicate 360 0#32).set 0 0x11 |>.set 359 0x22
    pub := (Vector.replicate 360 0#32).set 0 0x33 |>.set 359 0x44 }

/-- The map of 20_memory.md R62 at both ends of every range (the rows RD-4 to RD-11 of section 2.5 among them). -/
theorem test_hostRead_map :
    [0x000004, 0x000007, 0x000008, 0x00000C, 0x0003FC, 0x000400, 0x00099F, 0x0009A0, 0x000FFC, 0x001000, 0x00159C,
        0x0015A0, 0xFFFFFF].map (fun a => memRead windows (BitVec.ofNat 24 a)) =
      [7, 7, 0x4B00, 0, 0, 0x11, 0x22, 0, 0, 0x33, 0x44, 0, 0] := by decide +kernel
/-- P3 and P7: STATUS reads 0x19 with a request in READ_BODY, and 0x33 when disconnected after a publication. -/
theorem test_hostRead_status :
    field (fun t => t.trace) (exec (.hostRead 0x000003#24) { on .readBody 2 with reqPending := true }) =
      some [.data 0x00000019#32] ∧
    statusWord { State.reset with run := .disconnected, reqPending := true, pubValid := true } = 0x33#32 := by decide
/-- RST-2. -/
theorem test_reset :
    field (fun t => (t.run, t.fsm, t.bodyCnt, t.pktIdx, t.trace))
        (exec .reset { on .readBody 7 with pktIdx := 3, errCount := 9, reqPending := true }) =
      some (.idle, .seekStart, 0, 0, [.resp .shutdown]) := by decide
/-- RST-5: the parameters outlive RESET and STATUS shows them. -/
theorem test_reset_parameters :
    field statusWord (exec .reset { on .readBody 7 with cfg := { Config.withTimeouts with fillGuard := true } }) =
      some 0x000001C0#32 := by decide

/-! ### The step -/

/-- EV-4: a byte offered in IDLE has no step, and hides no later event (P3: BYTE, then START). -/
theorem test_held_byte :
    step { State.reset with events := [0x000000FA#32] } = .fault .stalled ∧
    field (fun t => (t.run, t.events)) (step { State.reset with events := [0x000000FA#32, 0x10000000#32] }) =
      some (.running, [0x000000FA#32]) := by
  exact ⟨rfl, by decide⟩
/-- FR-S5: a starved parser has no step. -/
theorem test_starved : step (on .readBody 19) = .fault .starved := rfl
/-- IL-6. -/
theorem test_illegal_word_refused :
    refusal (step { State.reset with events := [0x10000001#32] }) = some (.illegalEvent .nonzeroPayload) := by decide
/-- The host's probe runs the word it is given, from reset. -/
theorem test_withFetchWord :
    field (fun t => (t.fsm, t.events)) (step (State.reset.withFetchWord 32 0x000000FA)) = some (.seekIndex, []) ∧
    field (fun t => t.trace) (step (State.reset.withFetchWord 32 0x21000000)) = some [] ∧
    field (fun t => t.run) (step (State.reset.withFetchWord 32 0x11000000)) = some .stopped := by decide
/-- IL-6 in a run: the word sets the mark and the run goes on. -/
theorem test_observe_mark :
    let r := observe State.reset [0x10000001#32, 0x10000000#32, 0x00000005#32]
    (r.refused, r.state.run, r.state.trace, r.stalled) =
      (true, .running, [.cond (.desync (.byte 0x05#8))], false) := by decide

/-! ### Witnesses: for every statement with hypotheses, operands and a state that meet them

A statement's clauses with hypotheses of their own have a witness each, at a boundary where the hypothesis is a range. -/

theorem witness_SsSync : ∃ s : State, s.run = .running ∧ s.fsm = .seekStart := ⟨on .seekStart 0, rfl, rfl⟩
theorem witness_SsDrop : ∃ (s : State) (b : Byte), s.run = .running ∧ s.fsm = .seekStart ∧ b ≠ 0xFA#8 :=
  ⟨on .seekStart 0, 0xFB#8, rfl, rfl, by decide⟩
theorem witness_SiIndex : ∀ b ∈ [0xA0#8, 0xF9#8],
    ∃ s : State, s.run = .running ∧ s.fsm = .seekIndex ∧ 0xA0 ≤ b.toNat ∧ b.toNat ≤ 0xF9 :=
  fun b hb => ⟨on .seekIndex 0, rfl, rfl, by revert b; decide⟩
theorem witness_SiResync : ∃ s : State, s.run = .running ∧ s.fsm = .seekIndex := ⟨on .seekIndex 0, rfl, rfl⟩
theorem witness_SiDesync : ∀ b ∈ [0x00#8, 0x9F#8, 0xFB#8, 0xFF#8],
    ∃ s : State, s.run = .running ∧ s.fsm = .seekIndex ∧ (b.toNat < 0xA0 ∨ 0xFA < b.toNat) :=
  fun b hb => ⟨on .seekIndex 0, rfl, rfl, by revert b; decide⟩
theorem witness_RbByte : ∀ c ∈ [(0 : BodyCount), 18],
    ∃ s : State, s.bodyCnt = c ∧ s.run = .running ∧ s.fsm = .readBody ∧ s.bodyCnt.val < 19 :=
  fun c hc => ⟨on .readBody c, rfl, rfl, rfl, by revert c; decide⟩

/-- DiscardedPacketOnlyCounted, DiscardedPacketKeepsItsAngles. -/
theorem witness_failing_packet : ∃ (s : State) (b : Byte) (buf : PktBuf), s.run = .running ∧ s.fsm = .readBody ∧
    s.bodyCnt.val = 19 ∧ buf = s.pktBuf.set 21 b ∧ receivedChk buf ≠ (computedChk buf).setWidth 16 ∧
    packetPasses (s.pktBuf.set 21 b) = false ∧ s.cfg.legal = true ∧ s.errCount.toNat + 1 < 2 ^ s.cfg.errW :=
  ⟨waiting 0 packet0, 0x70#8, packet0.set 21 0x70#8, rfl, rfl, rfl, by decide, by decide, by decide, by decide, by decide⟩
/-- PassingPacketReplacesItsSlots, PassingPacketFullEffect (no publication), PassingPacket89Publishes (other index). -/
theorem witness_passing_packet : ∃ (s : State) (b : Byte) (buf : PktBuf), s.run = .running ∧ s.fsm = .readBody ∧
    s.bodyCnt.val = 19 ∧ buf = s.pktBuf.set 21 b ∧ receivedChk buf = (computedChk buf).setWidth 16 ∧
    packetPasses buf = true ∧ packetPasses (s.pktBuf.set 21 b) = true ∧ s.cfg.fillGuard = false ∧ s.pktIdx.val ≠ 89 :=
  ⟨waiting 0 packet0, 0x6F#8, packet0, rfl, rfl, rfl, by decide, by decide, by decide, by decide, rfl, by decide⟩
/-- PassingPacketFullEffect (publication), PassingPacket89Publishes, PublicationWithoutRequestIsNotRemembered. -/
theorem witness_publishing_packet : ∃ (s : State) (b : Byte) (buf : PktBuf), s.run = .running ∧ s.fsm = .readBody ∧
    s.bodyCnt.val = 19 ∧ buf = s.pktBuf.set 21 b ∧ receivedChk buf = (computedChk buf).setWidth 16 ∧
    packetPasses (s.pktBuf.set 21 b) = true ∧ s.cfg.fillGuard = false ∧ s.pktIdx.val = 89 ∧ s.reqPending = false ∧
    (s.cfg.fillGuard = true → ∀ j : PktIndex, j.val ≠ 89 → s.seen[j] = true) :=
  ⟨waiting 89 packet89, 0x54#8, packet89, rfl, rfl, rfl, by decide, by decide, by decide, rfl, rfl, rfl,
    fun h => nomatch h⟩

/-- A guarded block that has seen every index but 89. -/
def guarded : State :=
  { waiting 89 packet89 with
    cfg := { Config.baseline with fillGuard := true }, seen := (Vector.replicate 90 true).set 89 false }

/-- The state after RB_LAST of 0x54. -/
def lastByte (s : State) : State := (s.putByte 21 0x54#8).validate.discardPartial

/-- PublicationWithoutRequestIsNotRemembered and PassingPacketFullEffect, with FILL_GUARD. -/
theorem witness_guarded_packet : guarded.run = .running ∧ guarded.fsm = .readBody ∧ guarded.bodyCnt.val = 19 ∧
    packetPasses (guarded.pktBuf.set 21 0x54#8) = true ∧ guarded.pktIdx.val = 89 ∧ guarded.reqPending = false ∧
    guarded.cfg.fillGuard = true ∧ ∀ j : PktIndex, j.val ≠ 89 → guarded.seen[j] = true :=
  ⟨rfl, rfl, rfl, by decide, rfl, rfl, rfl, by decide⟩
/-- GuardedPublicationNeedsEveryIndex. -/
theorem witness_guarded_publication : ∃ (i : Instr) (s t : State), exec i s = .next t ∧ s.cfg.fillGuard = true ∧
    s.pubValid = false ∧ t.pubValid = true ∧ i ≠ .reset ∧ s.seen[(0 : PktIndex)] = true :=
  ⟨.rbLast 0x54#8, guarded, lastByte guarded, execRbLast_next.2 ⟨rfl, ⟨rfl, rfl⟩, rfl⟩, rfl, rfl, by decide +kernel,
    by decide, by decide⟩

/-- RxTimeoutDiscardsPartialPacket, one for each clause (both reasons of the second). -/
theorem witness_RxTimeout :
    (∃ s : State, s.cfg.rxTimeoutEn = true ∧ s.run = .running ∧ s.fsm ≠ .seekStart) ∧
    (∃ s : State, s.cfg.rxTimeoutEn = true ∧ s.run ≠ .running) ∧
    (∃ s : State, s.cfg.rxTimeoutEn = true ∧ s.fsm = .seekStart ∧ s.run = .running) ∧
    ∃ s : State, s.cfg.rxTimeoutEn = false :=
  ⟨⟨{ on .seekIndex 0 with cfg := Config.withTimeouts }, rfl, rfl, by decide⟩,
    ⟨{ State.reset with cfg := Config.withTimeouts }, rfl, by decide⟩,
    ⟨{ on .seekStart 0 with cfg := Config.withTimeouts }, rfl, rfl, rfl⟩, ⟨State.reset, rfl⟩⟩
/-- RxDisconnectKeepsPublishedScan, CtlStartOnlyLeavesIdle, CtlStopAnswersPendingRequest and
HostReqWaitsForFreshPublication: every lifecycle state. -/
theorem witness_every_run_state : ∀ r : RunState, ∃ s : State, s.run = r := fun r => ⟨{ State.reset with run := r }, rfl⟩
/-- ReqTimeoutCompletesWithoutScan, one for each clause. -/
theorem witness_ReqTimeout :
    (∃ s : State, s.cfg.reqTimeoutEn = true ∧ s.reqPending = true) ∧ ∃ s : State, s.cfg.reqTimeoutEn = false :=
  ⟨⟨{ State.reset with cfg := Config.withTimeouts, reqPending := true }, rfl, rfl⟩, ⟨State.reset, rfl⟩⟩
/-- HostReadReturnsMappedWord: an address at both ends of every clause's range, and no two clauses meet. -/
theorem witness_HostRead :
    (0x000003#24).toNat / 4 = 0 ∧ (0x000004#24).toNat / 4 = 1 ∧ (0x00000B#24).toNat / 4 = 2 ∧
    (0x00000C#24).toNat / 4 = 3 ∧ (0x0003FF#24).toNat / 4 = 0x100 - 1 ∧
    (0x000400#24).toNat / 4 = 0x100 + (0 : Angle).val ∧ (0x00099F#24).toNat / 4 = 0x100 + (359 : Angle).val ∧
    (0x0009A0#24).toNat / 4 = 0x268 ∧ (0x000FFF#24).toNat / 4 = 0x400 - 1 ∧
    (0x001000#24).toNat / 4 = 0x400 + (0 : Angle).val ∧ (0x00159F#24).toNat / 4 = 0x400 + (359 : Angle).val ∧
    (0x0015A0#24).toNat / 4 = 0x568 ∧ 0x568 ≤ (0xFFFFFF#24).toNat / 4 := by decide
/-- PowerOnEqualsReset. -/
theorem witness_PowerOn : ∃ s : State, s.cfg = Config.baseline ∧ s ≠ State.reset :=
  ⟨on .readBody 7, rfl, fun h => absurd (congrArg State.run h) (by decide)⟩

/-- DecodeOfEncode: for every constructor. -/
theorem witness_DecodeOfEncode :
    ∀ p ∈ [(Fsm.seekStart, (0 : BodyCount), Instr.ssSync), (.seekStart, 0, .ssDrop 0xFB), (.seekIndex, 0, .siIndex 0xF9),
        (.seekIndex, 0, .siResync), (.seekIndex, 0, .siDesync 0x9F), (.readBody, 18, .rbByte 0xFA),
        (.readBody, 19, .rbLast 0xFF), (.readBody, 3, .rxTimeout), (.seekIndex, 0, .rxDisconnect),
        (.seekStart, 0, .ctlStart), (.seekStart, 0, .ctlStop), (.seekStart, 0, .hostReq), (.seekStart, 0, .reqTimeout),
        (.seekStart, 0, .hostRead 0xFFFFFF), (.readBody, 19, .reset)],
      p.2.2.wf = true ∧ p.2.2.selectedAt p.1 p.2.1 = true ∧ p.2.2.presentIn Config.withTimeouts = true := by decide
/-- EncodeOfDecode. -/
theorem witness_EncodeOfDecode :
    decode Config.withTimeouts .readBody 19 0x000000FF#32 = .ok (.rbLast 0xFF#8) ∧
    decode Config.withTimeouts .seekStart 0 0x30FFFFFF#32 = .ok (.hostRead 0xFFFFFF#24) := by decide
/-- IllegalWordsRefused: a word under each alternative, and an offered illegal word. -/
theorem witness_IllegalWords :
    ((0x03000000#32).toNat / 2 ^ 24 ∉ [0x00, 0x01, 0x02, 0x10, 0x11, 0x20, 0x21, 0x30, 0xF0]) ∧
    ((0x00000100#32).toNat / 2 ^ 24 = 0x00 ∧ (0x00000100#32).toNat / 2 ^ 8 % 2 ^ 16 ≠ 0) ∧
    ((0x10000001#32).toNat / 2 ^ 24 ≠ 0x00 ∧ (0x10000001#32).toNat / 2 ^ 24 ≠ 0x30 ∧
      (0x10000001#32).toNat % 2 ^ 24 ≠ 0) ∧
    ((0x01000000#32).toNat / 2 ^ 24 = 0x01 ∧ Config.baseline.rxTimeoutEn = false) ∧
    ((0x21000000#32).toNat / 2 ^ 24 = 0x21 ∧ Config.baseline.reqTimeoutEn = false) ∧
    ∃ (s t : State) (why : Reject), s.nextEvent = some (0x10000001#32, t) ∧
      decode s.cfg s.fsm s.bodyCnt 0x10000001#32 = .error why :=
  ⟨by decide, by decide, by decide, by decide, by decide,
    { State.reset with events := [0x10000001#32] }, State.reset, .nonzeroPayload, rfl, by decide⟩

/-- StepRunsTheDecodedEvent, first clause. -/
theorem witness_StepRuns_running : ∃ (s : State) (w : EventWord) (rest : List EventWord) (i : Instr),
    s.run = .running ∧ s.events = w :: rest ∧ decode s.cfg s.fsm s.bodyCnt w = .ok i :=
  ⟨{ on .seekStart 0 with events := [0x000000FA#32] }, 0x000000FA#32, [], .ssSync, rfl, rfl, by decide⟩
/-- StepRunsTheDecodedEvent, second clause, with a byte held. -/
theorem witness_StepRuns_held : ∃ (s : State) (held : List Byte) (w : EventWord) (rest : List EventWord) (i : Instr),
    s.run ≠ .running ∧ s.events = held.map byteWord ++ w :: rest ∧ isByteEvent w = false ∧
    decode s.cfg s.fsm s.bodyCnt w = .ok i :=
  ⟨{ State.reset with events := [0x000000FA#32, 0x10000000#32] }, [0xFA#8], 0x10000000#32, [], .ctlStart, by decide,
    by decide, by decide, by decide⟩
/-- ByteAcceptanceDependsOnRunAlone, both clauses. -/
theorem witness_ByteAcceptance :
    (∃ (s : State) (b : Byte) (rest : List EventWord), s.run = .running ∧ s.events = byteWord b :: rest) ∧
    ∃ s t : State, s.run ≠ .running ∧ step s = .next t :=
  ⟨⟨{ on .seekStart 0 with events := [byteWord 5] }, 5, [], rfl, rfl⟩,
    ⟨{ State.reset with events := [0x10000000#32] }, { State.reset with run := .running }, by decide, rfl⟩⟩
/-- HeldByteStaysOffered: a step, a refusal and a fault behind the byte. -/
theorem witness_HeldByte :
    (∃ (s t : State) (b : Byte) (rest : List EventWord), s.run ≠ .running ∧ s.events = byteWord b :: rest ∧
      step { s with events := rest } = .next t) ∧
    (∃ (s : State) (b : Byte) (rest : List EventWord) (r : Refusal), s.run ≠ .running ∧ s.events = byteWord b :: rest ∧
      step { s with events := rest } = .refused r) ∧
    ∃ (s : State) (b : Byte) (rest : List EventWord) (f : Fault), s.run ≠ .running ∧ s.events = byteWord b :: rest ∧
      step { s with events := rest } = .fault f :=
  ⟨⟨{ State.reset with events := [byteWord 5, 0x10000000#32] }, { State.reset with run := .running }, 5,
      [0x10000000#32], by decide, rfl, rfl⟩,
    ⟨{ State.reset with events := [byteWord 5, 0x10000001#32] }, 5, [0x10000001#32], .illegalEvent .nonzeroPayload,
      by decide, rfl, rfl⟩,
    ⟨{ State.reset with events := [byteWord 5] }, 5, [], .starved, by decide, rfl, rfl⟩⟩
/-- LegalEventsHaveAStep. -/
theorem witness_LegalEvents : ∃ (s t : State) (w : EventWord) (i : Instr), s.nextEvent = some (w, t) ∧
    decode s.cfg s.fsm s.bodyCnt w = .ok i :=
  ⟨{ State.reset with events := [0x20000000#32] }, State.reset, 0x20000000#32, .hostReq, rfl, by decide⟩
/-- FramerOpsRunExactlyWhereSelected: selected, not ready, not selected. -/
theorem witness_FramerOps :
    (∃ (i : Instr) (s : State), i.isFramerOp = true ∧ s.run = .running ∧ i.selectedAt s.fsm s.bodyCnt = true ∧
      i.wf = true) ∧
    (∃ (i : Instr) (s : State), i.isFramerOp = true ∧ s.run ≠ .running) ∧
    ∃ (i : Instr) (s : State), i.isFramerOp = true ∧ s.run = .running ∧
      ¬(i.selectedAt s.fsm s.bodyCnt = true ∧ i.wf = true) :=
  ⟨⟨.rbLast 0xFA, on .readBody 19, by decide⟩, ⟨.ssSync, State.reset, by decide⟩, ⟨.rbByte 0, on .readBody 19, by decide⟩⟩

/-- A packet offered to a running block: WellFormedPacketAssembled (both index clauses), CorruptPacketOnlyCounted. -/
def offered (p : PktBuf) : State := { on .seekStart 0 with events := p.toList.map byteWord ++ [] }

theorem witness_WellFormedPacket : ∃ (s : State) (p : PktBuf) (rest : List EventWord), s.run = .running ∧
    s.fsm = .seekStart ∧ p[0] = 0xFA#8 ∧ 0xA0 ≤ p[1].toNat ∧ p[1].toNat ≤ 0xF9 ∧ p[1].toNat ≠ 0xF9 ∧
    receivedChk p = (computedChk p).setWidth 16 ∧ s.events = p.toList.map byteWord ++ rest :=
  ⟨offered packet0, packet0, [], rfl, rfl, by decide, by decide, by decide, by decide, by decide, rfl⟩
theorem witness_WellFormedPacket89 : ∃ (s : State) (p : PktBuf) (rest : List EventWord), s.run = .running ∧
    s.fsm = .seekStart ∧ p[0] = 0xFA#8 ∧ p[1].toNat = 0xF9 ∧ receivedChk p = (computedChk p).setWidth 16 ∧
    s.events = p.toList.map byteWord ++ rest ∧ s.cfg.fillGuard = false :=
  ⟨offered packet89, packet89, [], rfl, rfl, by decide, by decide, by decide, rfl, rfl⟩
/-- WellFormedPacketAssembled with FILL_GUARD: every other index seen, and none seen. -/
theorem witness_WellFormedPacket_guarded :
    (∃ (s : State) (p : PktBuf), s.run = .running ∧ s.fsm = .seekStart ∧ p[0] = 0xFA#8 ∧ p[1].toNat = 0xF9 ∧
      receivedChk p = (computedChk p).setWidth 16 ∧ s.events = p.toList.map byteWord ++ [] ∧ s.cfg.fillGuard = true ∧
      ∀ j : PktIndex, j.val ≠ 89 → s.seen[j] = true) ∧
    ∃ (s : State) (p : PktBuf), s.run = .running ∧ s.fsm = .seekStart ∧ p[0] = 0xFA#8 ∧ p[1].toNat = 0xF9 ∧
      receivedChk p = (computedChk p).setWidth 16 ∧ s.events = p.toList.map byteWord ++ [] ∧
      ¬(s.cfg.fillGuard = true → ∀ j : PktIndex, j.val ≠ 89 → s.seen[j] = true) :=
  ⟨⟨{ offered packet89 with cfg := guarded.cfg, seen := guarded.seen }, packet89, rfl, rfl, by decide, by decide,
      by decide, rfl, rfl, by decide⟩,
    ⟨{ offered packet89 with cfg := guarded.cfg }, packet89, rfl, rfl, by decide, by decide, by decide, rfl,
      fun h => absurd (h rfl 0 (by decide)) (by decide)⟩⟩
theorem witness_CorruptPacket : ∃ (s : State) (p : PktBuf) (rest : List EventWord), s.run = .running ∧
    s.fsm = .seekStart ∧ s.cfg.legal = true ∧ p[0] = 0xFA#8 ∧ 0xA0 ≤ p[1].toNat ∧ p[1].toNat ≤ 0xF9 ∧
    receivedChk p ≠ (computedChk p).setWidth 16 ∧ s.events = p.toList.map byteWord ++ rest :=
  ⟨offered (packet0.set 20 0xE6), packet0.set 20 0xE6, [], rfl, rfl, by decide, by decide, by decide, by decide,
    by decide, rfl⟩
theorem witness_FullRevolution : ∃ (s : State) (v : PktIndex → Half) (rd : PktIndex → Lane → Reading)
    (rest : List EventWord), s.run = .running ∧ s.fsm = .seekStart ∧
    s.events =
      stimulus ((List.finRange 90).map fun i => .packet i (v i) (rd i 0) (rd i 1) (rd i 2) (rd i 3)) ++ rest :=
  ⟨{ on .seekStart 0 with
      events := stimulus ((List.finRange 90).map fun i =>
        .packet i 0x4B00 ⟨1000, false, false, 0⟩ ⟨1000, false, false, 0⟩ ⟨1000, false, false, 0⟩ ⟨1000, false, false, 0⟩)
        ++ [] },
    fun _ => 0x4B00, fun _ _ => ⟨1000, false, false, 0⟩, [], rfl, rfl, rfl⟩
theorem witness_StraySentinels : ∀ b ∈ [0xA0#8, 0xF9#8], ∃ s : State, s.run = .running ∧ s.fsm = .seekStart ∧
    0xA0 ≤ b.toNat ∧ b.toNat ≤ 0xF9 := fun b hb => ⟨on .seekStart 0, rfl, rfl, by revert b; decide⟩

/-- A running block after its sentinel, offered an index byte. -/
def awaitingIndex : State :=
  { on .seekIndex 0 with pktBuf := (Vector.replicate 22 0x00#8).set 0 0xFA#8, events := [byteWord 0xC3#8] }

/-- StepKeepsInv: a state with the invariant, every clause of it shown, and a step from it. -/
theorem witness_StepKeepsInv : ∃ s t : State, s.Inv ∧ step s = .next t :=
  ⟨awaitingIndex, _,
    { parserIdle := fun h => absurd rfl h
      stoppedAnswered := fun h => nomatch h
      countOnlyInBody := fun _ => rfl
      sentinelCaptured := fun _ => by decide
      indexCaptured := fun h => nomatch h
      configLegal := by decide
      errCountFits := by decide
      seenUnused := fun _ => by decide
      unpublishedZero := fun _ => ⟨rfl, rfl⟩
      publishedFilled := fun h => nomatch h
      unseenZero := fun h => nomatch h },
    (step_of_decode (i := .siIndex 0xC3#8) (nextEvent_running (w := byteWord 0xC3#8) (rest := []) rfl rfl)
      (by decide)).trans (execSiIndex_next.2 ⟨rfl, ⟨rfl, by decide⟩, rfl⟩)⟩
/-- StoppedBlockKeepsProducerAndSnapshot: a stopped block runs on what is offered. -/
theorem witness_StoppedBlock : ∃ (s t : State), s.run = .stopped ∧ s.reqPending = false ∧ (∀ w ∈ s.events, eventClass w ≠ 0xF0#8) ∧
    Host.Core.run Sys2Proof.core 1 s = .next t ∧ t.trace = [.resp .shutdown] := by
  let s : State := { State.reset with run := .stopped, events := [byteWord 5, 0x20000000#32] }
  let t : State := { State.reset with run := .stopped, events := [byteWord 5], trace := [.resp .shutdown] }
  have hn : s.nextEvent = some (0x20000000#32, { s with events := [byteWord 5] }) := rfl
  have h : step s = .next t :=
    (step_of_decode (i := .hostReq) hn (by decide)).trans (execHostReq_next.2 (.inl ⟨rfl, rfl⟩))
  have he : ∀ w ∈ [byteWord 5, 0x20000000#32], eventClass w ≠ 0xF0#8 :=
    List.forall_mem_cons.2 ⟨by decide, List.forall_mem_cons.2 ⟨by decide, fun _ h => nomatch h⟩⟩
  exact ⟨s, t, rfl, rfl, he, (run_of_step h).trans (run_zero t), rfl⟩
/-- ConsumerEventsLeaveProducerAlone. -/
theorem witness_ConsumerEvents : ∃ (i : Instr) (s t : State), agentOf i = .consumer ∧ exec i s = .next t :=
  ⟨.hostReq, State.reset, { State.reset with reqPending := true }, rfl, rfl⟩
/-- ProducerIgnoresConsumer: the two states differ in the request. -/
theorem witness_ProducerIgnores : ∃ (i : Instr) (s1 s2 t1 : State), SameProducer s1 s2 ∧ exec i s1 = .next t1 ∧
    s1.reqPending ≠ s2.reqPending :=
  ⟨.ctlStart, State.reset, { State.reset with reqPending := true }, { State.reset with run := .running },
    ⟨rfl, rfl, rfl, rfl, rfl, rfl, rfl, rfl, rfl, rfl, rfl, rfl⟩, rfl, by decide⟩

/-- A request answered by a publication: RespChangesOnlyWithScanResponse, PubChangesOnlyAtPublication,
RequestEndsWithItsResponse. -/
theorem witness_answered_request : ∃ (i : Instr) (s t : State), exec i s = .next t ∧ t.resp ≠ s.resp ∧ t.pub ≠ s.pub ∧
    t.pubValid ≠ s.pubValid ∧ s.reqPending = true ∧ t.reqPending = false := by
  let s : State := { waiting 89 packet89 with reqPending := true }
  have hr : (lastByte s).resp[356] ≠ s.resp[356] := by decide +kernel
  have hp : (lastByte s).pub[356] ≠ s.pub[356] := by decide +kernel
  exact ⟨.rbLast 0x54#8, s, lastByte s, execRbLast_next.2 ⟨rfl, ⟨rfl, rfl⟩, rfl⟩, fun h => hr (by rw [h]),
    fun h => hp (by rw [h]), by decide +kernel, rfl, by decide +kernel⟩
/-- ErrCountChangesOnlyOnMismatch, and SequencerAdvancesOneByte on the way back to packet byte 0. -/
theorem witness_mismatch : ∃ (i : Instr) (s t : State), exec i s = .next t ∧ s.cfg.legal = true ∧
    t.errCount ≠ s.errCount ∧ t.packetByte ≠ s.packetByte := by
  let s : State := waiting 0 packet0
  exact ⟨.rbLast 0x54#8, s, lastByte s, execRbLast_next.2 ⟨rfl, ⟨rfl, rfl⟩, rfl⟩, by decide, by decide +kernel,
    by decide +kernel⟩
/-- ConditionsRaisedByTheirOperationsOnly. -/
theorem witness_conditions : ∃ s t : State, exec (.ssDrop 0x00#8) s = .next t ∧
    t.trace = s.trace ++ [.cond (.desync (.byte 0x00#8))] :=
  ⟨on .seekStart 0, _, execSsDrop_next.2 ⟨rfl, ⟨rfl, by decide⟩, rfl⟩, rfl⟩
/-- NoResponseWithoutRequest, both alternatives. -/
theorem witness_responses :
    (∃ s t : State, exec .ctlStop s = .next t ∧ t.trace = s.trace ++ [.resp .shutdown] ∧ s.reqPending = true) ∧
    ∃ s t : State, exec .hostReq s = .next t ∧ t.trace = s.trace ++ [.resp .shutdown] ∧ s.run = .stopped :=
  ⟨⟨{ State.reset with reqPending := true }, { State.reset with run := .stopped, trace := [.resp .shutdown] }, rfl, rfl,
      rfl⟩,
    ⟨{ State.reset with run := .stopped }, { State.reset with run := .stopped, trace := [.resp .shutdown] }, rfl, rfl,
      rfl⟩⟩
/-- LifecycleTransitions. -/
theorem witness_lifecycle : ∃ (i : Instr) (s t : State), exec i s = .next t ∧ t.run ≠ s.run :=
  ⟨.ctlStart, State.reset, { State.reset with run := .running }, rfl, fun h => nomatch h⟩
/-- SequencerAdvancesOneByte, forwards. -/
theorem witness_sequencer : ∃ (i : Instr) (s t : State), exec i s = .next t ∧ t.packetByte ≠ s.packetByte :=
  ⟨.ssSync, on .seekStart 0, (on .seekStart 0).putByte 0 sentinel |>.goto .seekIndex,
    execSsSync_next.2 ⟨rfl, rfl, rfl⟩, by decide⟩
/-- HighChecksumBitAlwaysFails, at the smallest byte. -/
theorem witness_high_bit : ∃ (s : State) (b : Byte), s.run = .running ∧ s.fsm = .readBody ∧ s.bodyCnt.val = 19 ∧
    128 ≤ b.toNat ∧ s.cfg.legal = true := ⟨on .readBody 19, 0x80#8, rfl, rfl, rfl, by decide, by decide⟩
/-- IncrementalChecksumAgrees. -/
theorem witness_incremental : packet0.toList.length % 2 = 0 ∧ packet0.toList ≠ [] := by decide
/-- RefusedWordOnlySetsTheMark. -/
theorem witness_refused_word : ∃ (s : State) (w : EventWord) (why : Reject), s.events = [] ∧
    decode s.cfg s.fsm s.bodyCnt w = .error why := ⟨State.reset, 0xFF000000#32, .unknownClass, rfl, by decide⟩

end Sys2Proof.Tests
end

section
/-! Proofs of the encoding family: the byte map (30_encoding.md section 4), the fields of a reading block (section 2)
and the rotation speed (R93). -/

namespace Sys2Proof

/-! ### The byte map -/

/-- A legal BYTE event word is the word of some byte (R98). -/
theorem byteWord_eventByte_of_isByteEvent {w : EventWord} (h : isByteEvent w = true) :
    byteWord (eventByte w) = w := by
  simp only [isByteEvent, Bool.and_eq_true, beq_iff_eq] at h
  exact byteWord_eventByte h.1 h.2

theorem decode_of_isByteEvent (cfg : Config) (fsm : Fsm) (cnt : BodyCount) {w : EventWord}
    (h : isByteEvent w = true) : decode cfg fsm cnt w = .ok (byteOp fsm cnt (eventByte w)) := by
  rw [← decode_byteWord cfg fsm cnt (eventByte w), byteWord_eventByte_of_isByteEvent h]

theorem byteWord_inj {b c : Byte} : byteWord b = byteWord c ↔ b = c :=
  ⟨fun h => by simpa using congrArg eventByte h, congrArg byteWord⟩

theorem byteOp_seekStart (cnt : BodyCount) (b : Byte) :
    byteOp .seekStart cnt b = if b = sentinel then .ssSync else .ssDrop b := rfl

theorem byteOp_seekIndex (cnt : BodyCount) (b : Byte) : byteOp .seekIndex cnt b =
    if isIndexByte b then .siIndex b else if b = sentinel then .siResync else .siDesync b := rfl

theorem byteOp_readBody (cnt : BodyCount) (b : Byte) :
    byteOp .readBody cnt b = if cnt.val < rbLen - 1 then .rbByte b else .rbLast b := rfl

/-- Every byte at every position performs an operation whose row's condition holds there (R103). -/
theorem byteOp_meets_row (fsm : Fsm) (cnt : BodyCount) (b : Byte) :
    (byteOp fsm cnt b).isFramerOp = true ∧ (byteOp fsm cnt b).selectedAt fsm cnt = true ∧
      (byteOp fsm cnt b).wf = true ∧ encode (byteOp fsm cnt b) = byteWord b := by
  cases fsm with
  | seekStart =>
    rw [byteOp_seekStart]
    split
    case isTrue hs => exact ⟨rfl, rfl, rfl, congrArg byteWord hs.symm⟩
    case isFalse hs => exact ⟨rfl, rfl, bne_iff_ne.2 hs, rfl⟩
  | seekIndex =>
    rw [byteOp_seekIndex]
    split
    case isTrue hi => exact ⟨rfl, rfl, hi, rfl⟩
    case isFalse hi =>
      split
      case isTrue hs => exact ⟨rfl, rfl, rfl, congrArg byteWord hs.symm⟩
      case isFalse hs => exact ⟨rfl, rfl, by simp [Instr.wf, hi, hs], rfl⟩
  | readBody =>
    rw [byteOp_readBody]
    split
    case isTrue hc => exact ⟨rfl, decide_eq_true hc, rfl, rfl⟩
    case isFalse hc =>
      have hlast : cnt.val = rbLen - 1 := Nat.le_antisymm (Nat.le_of_lt_succ cnt.isLt) (Nat.le_of_not_lt hc)
      exact ⟨rfl, decide_eq_true hlast, rfl, rfl⟩

/-- No two rows' conditions overlap: the operation whose condition holds is the one the map chooses (R101). -/
theorem byteOp_of_row {fsm : Fsm} {cnt : BodyCount} {i : Instr} (hop : i.isFramerOp = true)
    (hsel : i.selectedAt fsm cnt = true) (hwf : i.wf = true) : byteOp fsm cnt (eventByte (encode i)) = i := by
  cases i with
  | ssSync | siResync | ssDrop | siIndex | siDesync | rbByte | rbLast =>
    simp_all [byteOp, encode, Instr.wf, Instr.selectedAt, not_isIndexByte_sentinel]
  | _ => cases hop

/-- The byte map says exactly what the rows say (R101). -/
theorem byteOp_eq_iff {fsm : Fsm} {cnt : BodyCount} {b : Byte} {i : Instr} :
    byteOp fsm cnt b = i ↔
      i.isFramerOp = true ∧ i.selectedAt fsm cnt = true ∧ i.wf = true ∧ encode i = byteWord b := by
  constructor
  · rintro rfl
    exact byteOp_meets_row fsm cnt b
  · rintro ⟨hop, hsel, hwf, henc⟩
    simpa [henc] using byteOp_of_row hop hsel hwf

theorem eq_sentinel_iff (b : Byte) : b = sentinel ↔ b.toNat = 0xFA := BitVec.toNat_inj.symm

/-- The bytes of SI_DESYNC's row lie below the index bytes or above the sentinel (R101). -/
theorem desyncByte_iff (b : Byte) :
    (isIndexByte b = false ∧ b ≠ sentinel) ↔ b.toNat < 0xA0 ∨ 0xFA < b.toNat := by
  rw [← Bool.not_eq_true, Machine.isIndexByte_iff, Ne, eq_sentinel_iff]
  omega

/-- The bit patterns of SS_DROP's row are every byte but the sentinel (R101). -/
theorem ssDrop_patterns (b : Byte) :
    b ≠ 0xFA#8 ↔ b >>> 7 = 0b0 ∨ b >>> 6 = 0b10 ∨ b >>> 5 = 0b110 ∨ b >>> 4 = 0b1110 ∨ b >>> 3 = 0b11110 ∨
      b >>> 1 = 0b1111100 ∨ b = 0b11111011 ∨ b >>> 2 = 0b111111 := by
  simp only [← BitVec.toNat_inj, BitVec.toNat_ushiftRight, Nat.shiftRight_eq_div_pow, Ne,
    BitVec.toNat_ofNat, BitVec.ofNat_eq_ofNat]
  omega

/-- The bit patterns of SI_INDEX's row are the index bytes (R101). -/
theorem siIndex_patterns (b : Byte) :
    (0xA0 ≤ b.toNat ∧ b.toNat ≤ 0xF9) ↔ b >>> 5 = 0b101 ∨ b >>> 5 = 0b110 ∨ b >>> 4 = 0b1110 ∨
      b >>> 3 = 0b11110 ∨ b >>> 1 = 0b1111100 := by
  simp only [← BitVec.toNat_inj, BitVec.toNat_ushiftRight, Nat.shiftRight_eq_div_pow,
    BitVec.toNat_ofNat, BitVec.ofNat_eq_ofNat]
  omega

/-- The bit patterns of SI_DESYNC's row are the remaining bytes (R101). -/
theorem siDesync_patterns (b : Byte) :
    (b.toNat < 0xA0 ∨ 0xFA < b.toNat) ↔ b >>> 7 = 0b0 ∨ b >>> 5 = 0b100 ∨ b = 0b11111011 ∨ b >>> 2 = 0b111111 := by
  simp only [← BitVec.toNat_inj, BitVec.toNat_ushiftRight, Nat.shiftRight_eq_div_pow,
    BitVec.toNat_ofNat, BitVec.ofNat_eq_ofNat]
  omega

/-- The seven rows of the byte map (R101), read off `byteOp_eq_iff`. -/
theorem byteOp_rows (fsm : Fsm) (cnt : BodyCount) (b : Byte) :
    (byteOp fsm cnt b = .ssSync ↔ fsm = .seekStart ∧ b = 0xFA#8) ∧
    (byteOp fsm cnt b = .ssDrop b ↔ fsm = .seekStart ∧ b ≠ 0xFA#8) ∧
    (byteOp fsm cnt b = .siIndex b ↔ fsm = .seekIndex ∧ 0xA0 ≤ b.toNat ∧ b.toNat ≤ 0xF9) ∧
    (byteOp fsm cnt b = .siResync ↔ fsm = .seekIndex ∧ b = 0xFA#8) ∧
    (byteOp fsm cnt b = .siDesync b ↔ fsm = .seekIndex ∧ (b.toNat < 0xA0 ∨ 0xFA < b.toNat)) ∧
    (byteOp fsm cnt b = .rbByte b ↔ fsm = .readBody ∧ cnt.val < 19) ∧
    (byteOp fsm cnt b = .rbLast b ↔ fsm = .readBody ∧ cnt.val = 19) := by
  simp only [byteOp_eq_iff, ← Machine.isIndexByte_iff, ← desyncByte_iff]
  simp [Instr.isFramerOp, Instr.wf, Instr.selectedAt, encode, byteWord_inj, eq_comm (a := sentinel)]

/-- Settles O27: the rows are `byteOp_eq_iff`, their bit patterns ranges of byte values. -/
theorem byteMapIsAPartition : Obligations.ByteMapIsAPartition := by
  unfold Obligations.ByteMapIsAPartition
  exact ⟨byteOp_rows, fun b => ⟨ssDrop_patterns b, siIndex_patterns b, siDesync_patterns b⟩,
    by decide +kernel, by decide +kernel, fun cfg fsm cnt _ hw => decode_of_isByteEvent cfg fsm cnt hw⟩

end Sys2Proof

namespace Sys2Proof.Machine

/-! ### The fields of a reading block -/

/-- The low half of a slot word holds the distance and the flags (R95, R96). -/
theorem le32_low_half (b0 b1 b2 b3 : Byte) : (le32 b0 b1 b2 b3).extractLsb' 0 16 = le16 b0 b1 := by
  apply BitVec.eq_of_getLsbD_eq
  intro i hi
  simp [le32, le16, hi, show i < 32 by omega, show i < 24 by omega]

/-- The high half of a slot word is the signal strength (R95, R96). -/
theorem le32_high_half (b0 b1 b2 b3 : Byte) : (le32 b0 b1 b2 b3).extractLsb' 16 16 = le16 b2 b3 := by
  apply BitVec.eq_of_getLsbD_eq
  intro i hi
  have hlow : b0.getLsbD (16 + i) = false ∧ b1.getLsbD (16 + i - 8) = false :=
    ⟨BitVec.getLsbD_of_ge _ _ (by omega), BitVec.getLsbD_of_ge _ _ (by omega)⟩
  have hhigh : 16 + i - 24 = i - 8 ∧ (16 + i < 24 ↔ i < 8) := by omega
  simp [le32, le16, hi, hlow, hhigh, show 16 + i < 32 by omega, show 16 + i - 16 = i by omega]

/-- Bits of a slot word below 16 are bits of its low half. -/
theorem getLsbD_le32_low (b0 b1 b2 b3 : Byte) {i : Nat} (hi : i < 16) :
    (le32 b0 b1 b2 b3).getLsbD i = (le16 b0 b1).getLsbD i := by
  rw [← le32_low_half b0 b1 b2 b3, BitVec.getLsbD_extractLsb', Nat.zero_add, decide_eq_true hi, Bool.true_and]

/-- The low 14 bits of the first two bytes, the flag bits of b1 masked off (R94). -/
theorem le16_low_fourteen (b0 b1 : Byte) :
    (le16 b0 b1).setWidth 14 = b0.setWidth 14 ||| ((b1 &&& 0x3F#8).setWidth 14 <<< 8) := by
  have hmask : ∀ j < 6, (0x3F#8).getLsbD j = true := by decide
  apply BitVec.eq_of_getLsbD_eq
  intro i hi
  simp only [le16, BitVec.getLsbD_setWidth, BitVec.getLsbD_or, BitVec.getLsbD_shiftLeft, BitVec.getLsbD_and,
    hmask (i - 8) (by omega), Bool.and_true]
  simp [hi, show i < 16 by omega, show i - 8 < 16 by omega, show i - 8 < 14 by omega]

/-- A mask of one bit tests that bit. -/
theorem and_twoPow_bne_zero (b : Byte) {i : Nat} (hi : i < 8) : ((b &&& BitVec.twoPow 8 i) != 0#8) = b.getLsbD i := by
  have hne : BitVec.twoPow 8 i ≠ 0#8 := fun h => by
    simpa [hi] using congrArg (·.getLsbD i) h
  rw [BitVec.and_twoPow]
  cases b.getLsbD i <;> simp [hne]

theorem invalidFlagOf_eq (b1 : Byte) : invalidFlagOf b1 = b1.getLsbD 7 := and_twoPow_bne_zero b1 (i := 7) (by decide)

theorem weakFlagOf_eq (b1 : Byte) : weakFlagOf b1 = b1.getLsbD 6 := and_twoPow_bne_zero b1 (i := 6) (by decide)

theorem readingOf_distanceMm (b0 b1 b2 b3 : Byte) : (readingOf (decodeReading b0 b1 b2 b3)).distanceMm =
    b0.setWidth 14 ||| ((b1 &&& 0x3F#8).setWidth 14 <<< 8) := by
  rw [← le16_low_fourteen, ← le32_low_half b0 b1 b2 b3]
  apply BitVec.eq_of_getLsbD_eq
  intro i hi
  simp [readingOf, decodeReading, hi, show i < 16 by omega]

theorem readingOf_invalidFlag (b0 b1 b2 b3 : Byte) :
    (readingOf (decodeReading b0 b1 b2 b3)).invalidFlag = invalidFlagOf b1 := by
  rw [invalidFlagOf_eq]
  exact (getLsbD_le32_low b0 b1 b2 b3 (by decide)).trans (by simp [le16])

theorem readingOf_weakSignalFlag (b0 b1 b2 b3 : Byte) :
    (readingOf (decodeReading b0 b1 b2 b3)).weakSignalFlag = weakFlagOf b1 := by
  rw [weakFlagOf_eq]
  exact (getLsbD_le32_low b0 b1 b2 b3 (by decide)).trans (by simp [le16])

theorem readingOf_signalStrength (b0 b1 b2 b3 : Byte) :
    (readingOf (decodeReading b0 b1 b2 b3)).signalStrength = le16 b2 b3 := le32_high_half b0 b1 b2 b3

/-- Settles O54: the two halves of the slot word, the flag bits split from the distance. -/
theorem readingFieldsFromBytes : Obligations.ReadingFieldsFromBytes := by
  unfold Obligations.ReadingFieldsFromBytes
  exact fun b0 b1 b2 b3 => ⟨readingOf_distanceMm b0 b1 b2 b3, readingOf_invalidFlag b0 b1 b2 b3,
    readingOf_weakSignalFlag b0 b1 b2 b3, readingOf_signalStrength b0 b1 b2 b3⟩

/-! ### The rotation speed -/

theorem rpmWhole_toNat (raw : Half) : (rpmWhole raw).toNat = raw.toNat / 64 := by
  rw [rpmWhole, BitVec.extractLsb'_toNat, Nat.shiftRight_eq_div_pow]
  omega

theorem rpmFraction_toNat (raw : Half) : (rpmFraction raw).toNat = raw.toNat % 64 := by
  simp [rpmFraction]

theorem rpm_eq_whole_add_fraction (raw : Half) :
    rpm raw = ((rpmWhole raw).toNat : Rat) + ((rpmFraction raw).toNat : Rat) / 64 := by
  have hsplit : (raw.toNat : Rat) = 64 * (rpmWhole raw).toNat + (rpmFraction raw).toNat := by
    rw [rpmWhole_toNat, rpmFraction_toNat]
    exact_mod_cast (Nat.div_add_mod raw.toNat 64).symm
  rw [rpm, hsplit]
  ring

/-- Settles O56: division with remainder of the raw speed by 64. -/
theorem speedIsSixFractionalBits : Obligations.SpeedIsSixFractionalBits := by
  unfold Obligations.SpeedIsSixFractionalBits
  exact fun raw => ⟨rfl, rpm_eq_whole_add_fraction raw, rfl, rfl⟩

end Sys2Proof.Machine
end

section
/-! Proofs of the framer family (41_framer.md): what each operation of a BYTE event writes, the byte it captures, and
what RB_LAST leaves alone when the packet fails its checksum. -/

namespace Sys2Proof.Machine

/-! ### SEEK_START and SEEK_INDEX -/

/-- Settles O1: the word is the sentinel's, and the meaning answers where it is enabled. -/
theorem ssSyncCapturesSentinel : Obligations.SsSyncCapturesSentinel := by
  unfold Obligations.SsSyncCapturesSentinel
  exact ⟨isByteEvent_byteWord sentinel, eventByte_byteWord sentinel,
    fun s hrun hfsm => execSsSync_next.2 ⟨hrun, hfsm, rfl⟩⟩

/-- Settles O2: the byte is none but the sentinel, so the meaning answers with the label alone. -/
theorem ssDropDiscardsByte : Obligations.SsDropDiscardsByte := by
  unfold Obligations.SsDropDiscardsByte
  exact fun s b hrun hfsm hb => ⟨isByteEvent_byteWord b, eventByte_byteWord b,
    execSsDrop_next.2 ⟨hrun, ⟨hfsm, hb⟩, rfl⟩⟩

/-- Settles O3: the range is that of an index byte, whose packet index needs no reduction modulo 90. -/
theorem siIndexStartsBody : Obligations.SiIndexStartsBody := by
  unfold Obligations.SiIndexStartsBody
  intro s b hrun hfsm hlo hhi
  have hb : isIndexByte b = true := (isIndexByte_iff b).2 ⟨hlo, hhi⟩
  exact ⟨isByteEvent_byteWord b, eventByte_byteWord b, packetIndex b, packetIndex_val hb,
    execSiIndex_next.2 ⟨hrun, ⟨hfsm, hb⟩, rfl⟩⟩

/-- Settles O4: the word is the sentinel's, and the meaning answers where it is enabled. -/
theorem siResyncKeepsSeeking : Obligations.SiResyncKeepsSeeking := by
  unfold Obligations.SiResyncKeepsSeeking
  exact ⟨isByteEvent_byteWord sentinel, eventByte_byteWord sentinel,
    fun s hrun hfsm => execSiResync_next.2 ⟨hrun, hfsm, rfl⟩⟩

/-- Settles O5: the range is that of the bytes which are neither index nor sentinel. -/
theorem siDesyncReturnsToStart : Obligations.SiDesyncReturnsToStart := by
  unfold Obligations.SiDesyncReturnsToStart
  exact fun s b hrun hfsm hb => ⟨isByteEvent_byteWord b, eventByte_byteWord b,
    execSiDesync_next.2 ⟨hrun, ⟨hfsm, (desyncByte_iff b).2 hb⟩, rfl⟩⟩

/-! ### READ_BODY -/

/-- One packet byte is written, every other one is kept. -/
theorem putByte_pktBuf_at (s : State) (i j : PktByte) (b : Byte) :
    (s.putByte i b).pktBuf[j] = if j = i then b else s.pktBuf[j] := by
  rw [State.putByte_pktBuf]
  split
  case isTrue h => rw [h, getElem_set_same]
  case isFalse h => exact getElem_set_other _ _ i.isLt _ _ fun hval => h (Fin.ext hval.symm)

theorem eq_bodyByte_iff (cnt : BodyCount) (j : PktByte) : j = bodyByte cnt ↔ j.val = 2 + cnt.val := Fin.ext_iff

/-- Below 19 the count of body bytes does not wrap (R156). -/
theorem bodyCount_add_one_val {cnt : BodyCount} (h : cnt.val < 19) : (cnt + 1).val = cnt.val + 1 :=
  Fin.val_add_one_of_lt (Fin.lt_def.2 h)

/-- Settles O6: the meaning answers with one byte written and the count raised, and the count has room. -/
theorem rbByteCapturesByte : Obligations.RbByteCapturesByte := by
  unfold Obligations.RbByteCapturesByte
  intro s b hrun hfsm hcnt
  refine ⟨isByteEvent_byteWord b, eventByte_byteWord b, _, execRbByte_next.2 ⟨hrun, ⟨hfsm, hcnt⟩, rfl⟩, rfl,
    bodyCount_add_one_val hcnt, fun j => ?_⟩
  simpa only [eq_bodyByte_iff] using putByte_pktBuf_at s (bodyByte s.bodyCnt) j b

/-- RB_LAST on a packet that fails its checksum: the byte is captured, the mismatch counted, the parser back at
packet byte 0 (R157). -/
theorem execRbLast_of_fail {s : State} {b : Byte} (hrun : s.run = .running) (hfsm : s.fsm = .readBody)
    (hcnt : s.bodyCnt.val = 19) (hfail : packetPasses (s.putByte 21 b).pktBuf = false) :
    execRbLast b s = .next (s.putByte 21 b).countMismatch.discardPartial :=
  execRbLast_next.2 ⟨hrun, ⟨hfsm, hcnt⟩, by rw [validate_of_fail hfail]⟩

/-- The error counter goes up by 1 where its width has room for it (R30). -/
theorem bumpErr_toNat_of_room {cfg : Config} (hlegal : cfg.legal = true) {e : Word}
    (hroom : e.toNat + 1 < 2 ^ cfg.errW) : (bumpErr cfg e).toNat = e.toNat + 1 := by
  rw [bumpErr_toNat (Config.errW_le hlegal), Nat.mod_eq_of_lt hroom]

/-- Settles O7: the mismatch branch writes the counter and the label, and none of the results. -/
theorem discardedPacketKeepsItsAngles : Obligations.DiscardedPacketKeepsItsAngles := by
  unfold Obligations.DiscardedPacketKeepsItsAngles
  intro s b hrun hfsm hcnt hfail
  refine ⟨_, execRbLast_of_fail hrun hfsm hcnt hfail, ?_⟩
  have hwork : (s.putByte 21 b).countMismatch.discardPartial.work = s.work := by simp
  exact ⟨fun k => by rw [hwork], by simp, hwork, by simp, by simp, by simp, by simp, by simp,
    fun hlegal hroom => by simpa using bumpErr_toNat_of_room hlegal hroom⟩

end Sys2Proof.Machine
end

section
/-! Proofs of the scan assembler family (43_scan_assembler.md): the angle map, the slots a passing packet replaces,
the packet that publishes, and a publication that no request waits for. -/

namespace Sys2Proof.Machine

/-! ### The angle map (R211) -/

/-- Settles O57: division of the angle by 4, which is onto and one-to-one. -/
theorem angleMapIsOneToOneAndOnto : Obligations.AngleMapIsOneToOneAndOnto := by
  unfold Obligations.AngleMapIsOneToOneAndOnto
  refine ⟨fun i k => by rw [angleOf_val, Nat.mul_comm], fun a => ?_⟩
  obtain ⟨i, k, hik⟩ := exists_angleOf a
  exact ⟨i, k, hik, fun j l hjl => angleOf_inj.1 (hjl.trans hik.symm)⟩

/-! ### RB_LAST on a packet that passes -/

/-- The publication test of R210, with the packet index as a number. -/
theorem store_revolutionDone_iff_val (s : State) : s.store.revolutionDone = true ↔
    s.pktIdx.val = 89 ∧ (s.cfg.fillGuard = true → ∀ j : PktIndex, j.val ≠ 89 → s.seen[j] = true) := by
  have hlast (j : PktIndex) : j = lastIdx ↔ j.val = 89 := Fin.ext_iff
  simpa only [ne_eq, hlast] using store_revolutionDone s

/-- RB_LAST on a packet that passes its checksum: the byte is captured, the packet assembled, the parser back at packet
byte 0 (R157). -/
theorem execRbLast_of_pass {s : State} {b : Byte} (hrun : s.run = .running) (hfsm : s.fsm = .readBody)
    (hcnt : s.bodyCnt.val = 19) (hpass : packetPasses (s.putByte 21 b).pktBuf = true) :
    execRbLast b s = .next (s.putByte 21 b).assemble.discardPartial :=
  execRbLast_next.2 ⟨hrun, ⟨hfsm, hcnt⟩, by rw [validate_of_pass hpass]⟩

/-- A publication does not change the array it copies. -/
@[simp] theorem State.assemble_work (s : State) : s.assemble.work = s.store.work := by
  unfold State.assemble
  split
  · exact State.publish_work _
  · rfl

/-- The scan array after a passing packet: its four readings in the slots of its index (R212). -/
theorem assembled_work_at (s : State) (b : Byte) (a : Angle) :
    (s.putByte 21 b).assemble.discardPartial.work[a] =
      if a.val / 4 = s.pktIdx.val then laneWord (s.pktBuf.set 21 b) ⟨a.val % 4, by omega⟩ else s.work[a] := by
  rw [State.discardPartial_work, State.assemble_work]
  exact store_work (s.putByte 21 b) a

/-- Settles O9: angle 4*i + k is the slot of lane k of packet i, and no lane has any other angle. -/
theorem passingPacketReplacesItsSlots : Obligations.PassingPacketReplacesItsSlots := by
  unfold Obligations.PassingPacketReplacesItsSlots
  rintro s b buf hrun hfsm hcnt rfl hpass
  refine ⟨_, execRbLast_of_pass hrun hfsm hcnt hpass, fun k a ha => ?_, fun a ha => ?_⟩
  · have hlane : (⟨a.val % 4, by omega⟩ : Lane) = k := Fin.ext (by simp only; omega)
    rw [assembled_work_at, if_pos (by omega), hlane, laneWord]
  · have hother : a.val / 4 ≠ s.pktIdx.val := fun h => ha ⟨a.val % 4, by omega⟩ (by simp only; omega)
    rw [assembled_work_at, if_neg hother]

/-! ### Publication (R213, R214, R220) -/

/-- A passing packet that completes the revolution is stored and the array published (R210). -/
theorem execRbLast_of_done {s : State} {b : Byte} (hrun : s.run = .running) (hfsm : s.fsm = .readBody)
    (hcnt : s.bodyCnt.val = 19) (hpass : packetPasses (s.putByte 21 b).pktBuf = true) (hidx : s.pktIdx.val = 89)
    (hseen : s.cfg.fillGuard = true → ∀ j : PktIndex, j.val ≠ 89 → s.seen[j] = true) :
    execRbLast b s = .next (s.putByte 21 b).store.publish.discardPartial := by
  rw [execRbLast_of_pass hrun hfsm hcnt hpass,
    assemble_of_done ((store_revolutionDone_iff_val (s.putByte 21 b)).2 ⟨hidx, hseen⟩)]

/-- A passing packet of any index but 89 is stored and nothing is published (R213). -/
theorem execRbLast_of_not_last {s : State} {b : Byte} (hrun : s.run = .running) (hfsm : s.fsm = .readBody)
    (hcnt : s.bodyCnt.val = 19) (hpass : packetPasses (s.putByte 21 b).pktBuf = true) (hidx : s.pktIdx.val ≠ 89) :
    execRbLast b s = .next (s.putByte 21 b).store.discardPartial := by
  have hdone : (s.putByte 21 b).store.revolutionDone = false :=
    Bool.eq_false_iff.2 fun h => hidx ((store_revolutionDone_iff_val _).1 h).1
  rw [execRbLast_of_pass hrun hfsm hcnt hpass, assemble_of_not_done hdone]

/-- Index 89 is the index of byte 0xF9 and of no other index byte (R153, R213). -/
theorem packetIndex_val_eq_last_iff {b : Byte} (hb : isIndexByte b = true) : (packetIndex b).val = 89 ↔ b = 0xF9#8 := by
  have hlo : 0xA0 ≤ b.toNat := ((isIndexByte_iff b).1 hb).1
  rw [packetIndex_val hb, ← BitVec.toNat_inj, BitVec.toNat_ofNat]
  omega

/-- Settles O11: without FILL_GUARD the publication test is the index test, and index byte 0xF9 has index 89. -/
theorem passingPacket89Publishes : Obligations.PassingPacket89Publishes := by
  unfold Obligations.PassingPacket89Publishes
  refine ⟨fun s b hrun hfsm hcnt hpass hguard => ?_,
    fun b hlo hhi => packetIndex_val_eq_last_iff ((isIndexByte_iff b).2 ⟨hlo, hhi⟩), fun k => angleOf_val 89 k⟩
  by_cases hidx : s.pktIdx.val = 89
  · have hseen (h : s.cfg.fillGuard = true) : ∀ j : PktIndex, j.val ≠ 89 → s.seen[j] = true := by simp [hguard] at h
    exact ⟨_, execRbLast_of_done hrun hfsm hcnt hpass hidx hseen, fun _ => by simp, fun hne => absurd hidx hne⟩
  · exact ⟨_, execRbLast_of_not_last hrun hfsm hcnt hpass hidx, fun heq => absurd heq hidx, fun _ => by simp⟩

/-- With no request pending the hand-off does nothing: publication is the copy alone (R214, R220). -/
theorem publish_of_no_request {s : State} (h : s.reqPending = false) : s.publish = s.copyOut := by
  simp [State.publish, State.handOff, h]

/-- Settles O12: publication is the copy alone, and a later request finds none pending, so it waits. -/
theorem publicationWithoutRequestIsNotRemembered : Obligations.PublicationWithoutRequestIsNotRemembered := by
  unfold Obligations.PublicationWithoutRequestIsNotRemembered
  refine ⟨fun s hreq => by rw [publish_of_no_request hreq]; rfl,
    fun s b hrun hfsm hcnt hpass hidx hseen hreq => ?_⟩
  refine ⟨_, execRbLast_of_done hrun hfsm hcnt hpass hidx hseen, ?_⟩
  rw [publish_of_no_request (by simpa using hreq)]
  refine ⟨by simp, by simp, by simp, by simpa using hreq, by simp, execHostReq_next.2 (.inr (.inr ⟨?_, ?_, rfl⟩))⟩
  · simp [hrun]
  · simpa using hreq

end Sys2Proof.Machine
end

section
/-! Proofs of the decoder and the encoder (30_encoding.md section 3; D2): what the decoder answers for each event class,
the round trip both ways, and exactly which words it refuses. -/

namespace Sys2Proof

/-! ### The fields of a word as numbers (R98) -/

theorem eventClass_toNat (w : EventWord) : (eventClass w).toNat = w.toNat / 2 ^ 24 := by
  rw [eventClass, BitVec.extractLsb'_toNat, Nat.shiftRight_eq_div_pow]
  omega

theorem eventPayload_toNat (w : EventWord) : (eventPayload w).toNat = w.toNat % 2 ^ 24 := by
  simp [eventPayload]

theorem bytePad_toNat (w : EventWord) : (bytePad w).toNat = w.toNat / 2 ^ 8 % 2 ^ 16 := by
  rw [bytePad, BitVec.extractLsb'_toNat, Nat.shiftRight_eq_div_pow]

/-- A word's class is c exactly where its bits [31:24] are. -/
theorem eventClass_eq_iff (w : EventWord) (c : Byte) : eventClass w = c ↔ w.toNat / 2 ^ 24 = c.toNat := by
  rw [← BitVec.toNat_inj, eventClass_toNat]

theorem bytePad_eq_zero_iff (w : EventWord) : bytePad w = 0 ↔ w.toNat / 2 ^ 8 % 2 ^ 16 = 0 := by
  rw [← BitVec.toNat_inj, bytePad_toNat]
  rfl

/-! ### The decoder, class by class (R98, R99) -/

/-- The event classes of R98. -/
def knownClasses : List Byte :=
  [classByte, classRxTimeout, classRxDisconnect, classCtlStart, classCtlStop, classHostReq, classReqTimeout,
    classHostRead, classReset]

/-- The class of a word is one of the nine of R98, or the word is of no known class. -/
theorem eventClass_cases (w : EventWord) :
    eventClass w = classByte ∨ eventClass w = classRxTimeout ∨ eventClass w = classRxDisconnect ∨
      eventClass w = classCtlStart ∨ eventClass w = classCtlStop ∨ eventClass w = classHostReq ∨
      eventClass w = classReqTimeout ∨ eventClass w = classHostRead ∨ eventClass w = classReset ∨
      eventClass w ∉ knownClasses := by
  simp only [knownClasses, List.mem_cons, List.not_mem_nil, or_false]
  tauto

section Classes
variable {cfg : Config} {fsm : Fsm} {cnt : BodyCount} {w : EventWord}

theorem decode_byte (h : eventClass w = classByte) : decode cfg fsm cnt w =
    if bytePad w = 0 then .ok (byteOp fsm cnt (eventByte w)) else .error .nonzeroPayload := by
  simp only [decode, h, if_true]

theorem decode_rxTimeout (h : eventClass w = classRxTimeout) :
    decode cfg fsm cnt w =
    if cfg.rxTimeoutEn then decodePlain w .rxTimeout else .error .rxTimeoutDisabled := by
  simp only [decode, h]
  rfl

theorem decode_rxDisconnect (h : eventClass w = classRxDisconnect) :
    decode cfg fsm cnt w = decodePlain w .rxDisconnect := by
  simp only [decode, h]
  rfl

theorem decode_ctlStart (h : eventClass w = classCtlStart) :
    decode cfg fsm cnt w = decodePlain w .ctlStart := by
  simp only [decode, h]
  rfl

theorem decode_ctlStop (h : eventClass w = classCtlStop) :
    decode cfg fsm cnt w = decodePlain w .ctlStop := by
  simp only [decode, h]
  rfl

theorem decode_hostReq (h : eventClass w = classHostReq) :
    decode cfg fsm cnt w = decodePlain w .hostReq := by
  simp only [decode, h]
  rfl

theorem decode_reqTimeout (h : eventClass w = classReqTimeout) :
    decode cfg fsm cnt w =
    if cfg.reqTimeoutEn then decodePlain w .reqTimeout else .error .reqTimeoutDisabled := by
  simp only [decode, h]
  rfl

theorem decode_hostRead (h : eventClass w = classHostRead) :
    decode cfg fsm cnt w = .ok (.hostRead (eventPayload w)) := by
  simp only [decode, h]
  rfl

theorem decode_reset (h : eventClass w = classReset) :
    decode cfg fsm cnt w = decodePlain w .reset := by
  simp only [decode, h]
  rfl

theorem decode_unknown (h : eventClass w ∉ knownClasses) : decode cfg fsm cnt w = .error .unknownClass := by
  simp only [knownClasses, List.mem_cons, List.not_mem_nil, or_false, not_or] at h
  simp [decode, h]

end Classes

/-- An event without payload decodes exactly where its payload is 0. -/
theorem decodePlain_ok_iff {w : EventWord} {i j : Instr} :
    decodePlain w i = .ok j ↔ eventPayload w = 0 ∧ i = j := by
  unfold decodePlain
  split
  case isTrue hp => simp only [hp, true_and, Except.ok.injEq]
  case isFalse hp => simp only [hp, false_and, reduceCtorEq]

@[simp] theorem decodePlain_eventWord (c : Byte) (i : Instr) : decodePlain (eventWord c 0) i = .ok i :=
  decodePlain_ok_iff.2 ⟨eventPayload_eventWord c 0, rfl⟩

/-- An event without payload is refused exactly where its payload is not 0. -/
theorem decodePlain_refuses_iff {w : EventWord} {i : Instr} :
    (∃ why, decodePlain w i = .error why) ↔ w.toNat % 2 ^ 24 ≠ 0 := by
  have hz : eventPayload w = 0 ↔ w.toNat % 2 ^ 24 = 0 := by rw [← BitVec.toNat_inj, eventPayload_toNat]; rfl
  unfold decodePlain
  split
  case isTrue hp => simpa using hz.1 hp
  case isFalse hp => exact ⟨fun _ => mt hz.2 hp, fun _ => ⟨_, rfl⟩⟩

/-! ### The round trip -/

/-- The word of a framer operation is the word of its byte (R98). -/
theorem encode_framerOp {i : Instr} (h : i.isFramerOp = true) : encode i = byteWord (eventByte (encode i)) := by
  cases i with
  | ssSync | siResync | ssDrop | siIndex | siDesync | rbByte | rbLast => simp [encode]
  | _ => cases h

/-- Settles O24: a framer operation is what the byte map selects for its byte; any other event is told by its class. -/
theorem decodeOfEncode : Obligations.DecodeOfEncode := by
  unfold Obligations.DecodeOfEncode
  intro cfg fsm cnt i hwf hsel hpres
  cases hop : i.isFramerOp with
  | true => rw [encode_framerOp hop, decode_byteWord, byteOp_of_row hop hsel hwf]
  | false =>
    cases i with
    | ssSync | siResync | ssDrop | siIndex | siDesync | rbByte | rbLast => cases hop
    | rxTimeout =>
      have hen : cfg.rxTimeoutEn = true := hpres
      rw [encode, decode_rxTimeout (eventClass_eventWord _ _), if_pos hen, decodePlain_eventWord]
    | rxDisconnect => rw [encode, decode_rxDisconnect (eventClass_eventWord _ _), decodePlain_eventWord]
    | ctlStart => rw [encode, decode_ctlStart (eventClass_eventWord _ _), decodePlain_eventWord]
    | ctlStop => rw [encode, decode_ctlStop (eventClass_eventWord _ _), decodePlain_eventWord]
    | hostReq => rw [encode, decode_hostReq (eventClass_eventWord _ _), decodePlain_eventWord]
    | reqTimeout =>
      have hen : cfg.reqTimeoutEn = true := hpres
      rw [encode, decode_reqTimeout (eventClass_eventWord _ _), if_pos hen, decodePlain_eventWord]
    | hostRead a => rw [encode, decode_hostRead (eventClass_eventWord _ _), eventPayload_eventWord]
    | reset => rw [encode, decode_reset (eventClass_eventWord _ _), decodePlain_eventWord]

/-- A word with payload 0 is the word of its class alone. -/
theorem eventWord_of_payload_zero {w : EventWord} {c : Byte} (hc : eventClass w = c) (hp : eventPayload w = 0) :
    eventWord c 0 = w := by
  rw [← hc, ← hp, eventWord_class_payload]

/-- An event without payload that decodes is the word of its class. -/
theorem encode_of_decodePlain {w : EventWord} {c : Byte} {i j : Instr} (hc : eventClass w = c)
    (hi : encode i = eventWord c 0) (h : decodePlain w i = .ok j) : encode j = w ∧ i = j := by
  obtain ⟨hp, rfl⟩ := decodePlain_ok_iff.1 h
  exact ⟨hi.trans (eventWord_of_payload_zero hc hp), rfl⟩

/-- Settles O25: class by class, the word is put together again from its class and its payload or byte. -/
theorem encodeOfDecode : Obligations.EncodeOfDecode := by
  unfold Obligations.EncodeOfDecode
  intro cfg fsm cnt w i h
  rcases eventClass_cases w with hc | hc | hc | hc | hc | hc | hc | hc | hc | hc
  · rw [decode_byte hc] at h
    split at h
    case isTrue hp =>
      cases h
      obtain ⟨hop, hsel, hwf, henc⟩ := byteOp_meets_row fsm cnt (eventByte w)
      refine ⟨henc.trans (byteWord_eventByte hc hp), hwf, hsel, ?_⟩
      revert hop
      cases byteOp fsm cnt (eventByte w) <;> simp [Instr.isFramerOp, Instr.presentIn]
    case isFalse => cases h
  · rw [decode_rxTimeout hc] at h
    split at h
    case isTrue hen =>
      obtain ⟨henc, rfl⟩ := encode_of_decodePlain hc rfl h
      exact ⟨henc, rfl, rfl, hen⟩
    case isFalse => cases h
  · obtain ⟨henc, rfl⟩ := encode_of_decodePlain hc rfl (decode_rxDisconnect hc ▸ h)
    exact ⟨henc, rfl, rfl, rfl⟩
  · obtain ⟨henc, rfl⟩ := encode_of_decodePlain hc rfl (decode_ctlStart hc ▸ h)
    exact ⟨henc, rfl, rfl, rfl⟩
  · obtain ⟨henc, rfl⟩ := encode_of_decodePlain hc rfl (decode_ctlStop hc ▸ h)
    exact ⟨henc, rfl, rfl, rfl⟩
  · obtain ⟨henc, rfl⟩ := encode_of_decodePlain hc rfl (decode_hostReq hc ▸ h)
    exact ⟨henc, rfl, rfl, rfl⟩
  · rw [decode_reqTimeout hc] at h
    split at h
    case isTrue hen =>
      obtain ⟨henc, rfl⟩ := encode_of_decodePlain hc rfl h
      exact ⟨henc, rfl, rfl, hen⟩
    case isFalse => cases h
  · rw [decode_hostRead hc] at h
    cases h
    exact ⟨by rw [encode, ← hc, eventWord_class_payload], rfl, rfl, rfl⟩
  · obtain ⟨henc, rfl⟩ := encode_of_decodePlain hc rfl (decode_reset hc ▸ h)
    exact ⟨henc, rfl, rfl, rfl⟩
  · rw [decode_unknown hc] at h
    cases h

/-! ### Illegal words (R99) -/

/-- Exactly the illegal words of R99, class by class. -/
theorem decode_refuses_iff (cfg : Config) (fsm : Fsm) (cnt : BodyCount) (w : EventWord) :
    (∃ why, decode cfg fsm cnt w = .error why) ↔
      (w.toNat / 2 ^ 24 ∉ [0x00, 0x01, 0x02, 0x10, 0x11, 0x20, 0x21, 0x30, 0xF0] ∨
        (w.toNat / 2 ^ 24 = 0x00 ∧ w.toNat / 2 ^ 8 % 2 ^ 16 ≠ 0) ∨
        (w.toNat / 2 ^ 24 ≠ 0x00 ∧ w.toNat / 2 ^ 24 ≠ 0x30 ∧ w.toNat % 2 ^ 24 ≠ 0) ∨
        (w.toNat / 2 ^ 24 = 0x01 ∧ cfg.rxTimeoutEn = false) ∨
        (w.toNat / 2 ^ 24 = 0x21 ∧ cfg.reqTimeoutEn = false)) := by
  rcases eventClass_cases w with hc | hc | hc | hc | hc | hc | hc | hc | hc | hc
  · rw [decode_byte hc, (eventClass_eq_iff w _).1 hc]
    split
    case isTrue hp => simpa using (bytePad_eq_zero_iff w).1 hp
    case isFalse hp => simpa using mt (bytePad_eq_zero_iff w).2 hp
  · rw [decode_rxTimeout hc, (eventClass_eq_iff w _).1 hc]
    cases cfg.rxTimeoutEn <;> simp [decodePlain_refuses_iff]
  · rw [decode_rxDisconnect hc, decodePlain_refuses_iff, (eventClass_eq_iff w _).1 hc]
    simp
  · rw [decode_ctlStart hc, decodePlain_refuses_iff, (eventClass_eq_iff w _).1 hc]
    simp
  · rw [decode_ctlStop hc, decodePlain_refuses_iff, (eventClass_eq_iff w _).1 hc]
    simp
  · rw [decode_hostReq hc, decodePlain_refuses_iff, (eventClass_eq_iff w _).1 hc]
    simp
  · rw [decode_reqTimeout hc, (eventClass_eq_iff w _).1 hc]
    cases cfg.reqTimeoutEn <;> simp [decodePlain_refuses_iff]
  · rw [decode_hostRead hc, (eventClass_eq_iff w _).1 hc]
    simp
  · rw [decode_reset hc, decodePlain_refuses_iff, (eventClass_eq_iff w _).1 hc]
    simp
  · rw [decode_unknown hc]
    refine ⟨fun _ => .inl ?_, fun _ => ⟨_, rfl⟩⟩
    simpa [knownClasses, eventClass_eq_iff] using hc

/-- A step whose next event is an illegal word refuses it by name (log 7). -/
theorem Machine.step_of_refused {s s' : Machine.State} {w : EventWord} {why : Reject}
    (hn : s.nextEvent = some (w, s')) (hd : s'.decodeEvent w = .error why) :
    Machine.step s = .refused (.illegalEvent why) := by
  simp [Machine.step, hn, hd]

/-- Taking an event changes nothing that decoding it depends on. -/
theorem Machine.decodeEvent_of_nextEvent {s s' : Machine.State} {w : EventWord} (hn : s.nextEvent = some (w, s')) :
    s'.decodeEvent w = decode s.cfg s.fsm s.bodyCnt w := by
  obtain ⟨rest, -, rfl⟩ := Machine.nextEvent_state hn
  rfl

/-- Settles O26: the refused words are `decode_refuses_iff`, and a step refuses what the decoder does. -/
theorem illegalWordsRefused : Obligations.IllegalWordsRefused := by
  unfold Obligations.IllegalWordsRefused
  exact ⟨decode_refuses_iff, fun s t w why hn hd =>
    Machine.step_of_refused hn ((Machine.decodeEvent_of_nextEvent hn).trans hd)⟩

/-- Settles O28: each word is evaluated at its parser position. -/
theorem writtenOutWordsDecode : Obligations.WrittenOutWordsDecode := by
  unfold Obligations.WrittenOutWordsDecode
  decide

end Sys2Proof
end

section
/-! What an instruction can do, as one relation (41_framer.md, 43_scan_assembler.md, 44_host_interface.md): a case for
every branch of every meaning, with the condition it is taken under and the state it leaves. -/

namespace Sys2Proof.Machine

/-- Every fill bit that packet 89 needs for a publication is set (R210, R217). -/
def State.fillReady (s : State) : Prop := s.cfg.fillGuard = true → ∀ j : PktIndex, j.val ≠ 89 → s.seen[j] = true

/-- RB_LAST has a step: the last byte of READ_BODY is awaited (R240, R157). -/
structure State.AwaitsLast (s : State) : Prop where
  run : s.run = .running
  fsm : s.fsm = .readBody
  cnt : s.bodyCnt.val = 19

/-- `Effect s i t`: instruction i has a step from s, and it leads to t. -/
inductive Effect (s : State) : Instr → State → Prop
  | ssSync (hrun : s.run = .running) (hfsm : s.fsm = .seekStart) :
      Effect s .ssSync ((s.putByte 0 sentinel).goto .seekIndex)
  | ssDrop (b : Byte) (hrun : s.run = .running) (hfsm : s.fsm = .seekStart) (hb : b ≠ sentinel) :
      Effect s (.ssDrop b) (s.raise (.desync (.byte b)))
  | siIndex (b : Byte) (hrun : s.run = .running) (hfsm : s.fsm = .seekIndex) (hb : isIndexByte b = true) :
      Effect s (.siIndex b) ({ s.putByte 1 b with pktIdx := packetIndex b, bodyCnt := 0 }.goto .readBody)
  | siResync (hrun : s.run = .running) (hfsm : s.fsm = .seekIndex) :
      Effect s .siResync ((s.putByte 0 sentinel).raise (.resync sentinel))
  | siDesync (b : Byte) (hrun : s.run = .running) (hfsm : s.fsm = .seekIndex) (hi : isIndexByte b = false)
      (hb : b ≠ sentinel) : Effect s (.siDesync b) ((s.goto .seekStart).raise (.desync (.byte b)))
  | rbByte (b : Byte) (hrun : s.run = .running) (hfsm : s.fsm = .readBody) (hcnt : s.bodyCnt.val < 19) :
      Effect s (.rbByte b) { s.putByte (bodyByte s.bodyCnt) b with bodyCnt := s.bodyCnt + 1 }
  | rbLastPublish (b : Byte) (hlast : s.AwaitsLast) (hpass : packetPasses (s.putByte 21 b).pktBuf = true)
      (hidx : s.pktIdx.val = 89) (hfill : s.fillReady) :
      Effect s (.rbLast b) (s.putByte 21 b).store.publish.discardPartial
  | rbLastStore (b : Byte) (hlast : s.AwaitsLast) (hpass : packetPasses (s.putByte 21 b).pktBuf = true)
      (hdone : ¬(s.pktIdx.val = 89 ∧ s.fillReady)) : Effect s (.rbLast b) (s.putByte 21 b).store.discardPartial
  | rbLastMismatch (b : Byte) (hlast : s.AwaitsLast) (hfail : packetPasses (s.putByte 21 b).pktBuf = false) :
      Effect s (.rbLast b) (s.putByte 21 b).countMismatch.discardPartial
  | rxTimeout (hen : s.cfg.rxTimeoutEn = true) (hrun : s.run = .running) (hfsm : s.fsm ≠ .seekStart) :
      Effect s .rxTimeout (s.discardPartial.raise (.desync .timeout))
  | rxTimeoutIdle (hen : s.cfg.rxTimeoutEn = true) (h : ¬(s.run = .running ∧ s.fsm ≠ .seekStart)) :
      Effect s .rxTimeout s
  | rxDisconnect (hrun : s.run = .idle ∨ s.run = .running) :
      Effect s .rxDisconnect (({ s with run := .disconnected }).discardPartial.raise .disconnect)
  | rxDisconnectIdle (hrun : ¬(s.run = .idle ∨ s.run = .running)) : Effect s .rxDisconnect s
  | ctlStart (hrun : s.run = .idle) : Effect s .ctlStart { s with run := .running }
  | ctlStartIdle (hrun : s.run ≠ .idle) : Effect s .ctlStart s
  | ctlStop (hrun : s.run ≠ .stopped) :
      Effect s .ctlStop (({ s with run := .stopped }).discardPartial.completeRequest .shutdown)
  | ctlStopIdle (hrun : s.run = .stopped) : Effect s .ctlStop s
  | hostReqStopped (hrun : s.run = .stopped) : Effect s .hostReq (s.emit .shutdown)
  | hostReq (hrun : s.run ≠ .stopped) : Effect s .hostReq { s with reqPending := true }
  | reqTimeout (hen : s.cfg.reqTimeoutEn = true) : Effect s .reqTimeout (s.completeRequest .timeout)
  | hostRead (addr : HostAddr) : Effect s (.hostRead addr) (s.reply (memRead s addr))
  | reset : Effect s .reset (s.completeRequest .shutdown).clear

/-- A passing packet publishes exactly with index 89 and, under FILL_GUARD, a full fill record (R210, R213, R217). -/
theorem putByte_store_revolutionDone (s : State) (b : Byte) :
    (s.putByte 21 b).store.revolutionDone = true ↔ s.pktIdx.val = 89 ∧ s.fillReady :=
  store_revolutionDone_iff_val (s.putByte 21 b)

/-- RB_LAST does one of three things (R157, R210). -/
theorem effect_of_execRbLast {s t : State} {b : Byte} (h : execRbLast b s = .next t) : Effect s (.rbLast b) t := by
  obtain ⟨hrun, ⟨hfsm, hcnt⟩, rfl⟩ := execRbLast_next.1 h
  have hlast : s.AwaitsLast := ⟨hrun, hfsm, hcnt⟩
  obtain ⟨hpass, hdone, he⟩ | ⟨hpass, hdone, he⟩ | ⟨hfail, he⟩ := validate_cases (s.putByte 21 b) <;> rw [he]
  · obtain ⟨hidx, hfill⟩ := (putByte_store_revolutionDone s b).1 hdone
    exact .rbLastPublish b hlast hpass hidx hfill
  · refine .rbLastStore b hlast hpass (mt (putByte_store_revolutionDone s b).2 ?_)
    rw [hdone]
    exact Bool.false_ne_true
  · exact .rbLastMismatch b hlast hfail

/-- Setting a pending flag that is set changes nothing (R247). -/
theorem with_reqPending_of_pending {s : State} (h : s.reqPending = true) : { s with reqPending := true } = s := by
  rw [← h]

/-- A next state that an instruction answers is one of its effects. -/
theorem effect_of_exec {i : Instr} {s t : State} (h : exec i s = .next t) : Effect s i t := by
  cases i <;> simp only [exec] at h
  case ssSync => obtain ⟨hrun, hfsm, rfl⟩ := execSsSync_next.1 h; exact .ssSync hrun hfsm
  case ssDrop => obtain ⟨hrun, ⟨hfsm, hb⟩, rfl⟩ := execSsDrop_next.1 h; exact .ssDrop _ hrun hfsm hb
  case siIndex => obtain ⟨hrun, ⟨hfsm, hb⟩, rfl⟩ := execSiIndex_next.1 h; exact .siIndex _ hrun hfsm hb
  case siResync => obtain ⟨hrun, hfsm, rfl⟩ := execSiResync_next.1 h; exact .siResync hrun hfsm
  case siDesync => obtain ⟨hrun, ⟨hfsm, hi, hb⟩, rfl⟩ := execSiDesync_next.1 h; exact .siDesync _ hrun hfsm hi hb
  case rbByte => obtain ⟨hrun, ⟨hfsm, hcnt⟩, rfl⟩ := execRbByte_next.1 h; exact .rbByte _ hrun hfsm hcnt
  case rbLast => exact effect_of_execRbLast h
  case rxTimeout =>
    obtain ⟨hen, ⟨hrun, hfsm, rfl⟩ | ⟨hidle, rfl⟩⟩ := execRxTimeout_next.1 h
    · exact .rxTimeout hen hrun hfsm
    · exact .rxTimeoutIdle hen hidle
  case rxDisconnect =>
    obtain ⟨hrun, rfl⟩ | ⟨hrun, rfl⟩ := execRxDisconnect_next.1 h
    · exact .rxDisconnect hrun
    · exact .rxDisconnectIdle hrun
  case ctlStart =>
    obtain ⟨hrun, rfl⟩ | ⟨hrun, rfl⟩ := execCtlStart_next.1 h
    · exact .ctlStart hrun
    · exact .ctlStartIdle hrun
  case ctlStop =>
    obtain ⟨hrun, rfl⟩ | ⟨hrun, rfl⟩ := execCtlStop_next.1 h
    · exact .ctlStop hrun
    · exact .ctlStopIdle hrun
  case hostReq =>
    obtain ⟨hrun, rfl⟩ | ⟨hrun, hreq, rfl⟩ | ⟨hrun, -, rfl⟩ := execHostReq_next.1 h
    · exact .hostReqStopped hrun
    · exact with_reqPending_of_pending hreq ▸ .hostReq hrun
    · exact .hostReq hrun
  case reqTimeout => obtain ⟨hen, rfl⟩ := execReqTimeout_next.1 h; exact .reqTimeout hen
  case hostRead => obtain rfl := execHostRead_next.1 h; exact .hostRead _
  case reset => obtain rfl := execReset_next.1 h; exact .reset

/-- HOST_REQ outside STOPPED leaves a request pending, whether or not one was (R247). -/
theorem execHostReq_of_not_stopped {s : State} (h : s.run ≠ .stopped) :
    execHostReq s = .next { s with reqPending := true } := by
  cases hreq : s.reqPending with
  | true => exact execHostReq_next.2 (.inr (.inl ⟨h, hreq, with_reqPending_of_pending hreq⟩))
  | false => exact execHostReq_next.2 (.inr (.inr ⟨h, hreq, rfl⟩))

/-- Every effect is the next state that the instruction answers. -/
theorem exec_of_effect {i : Instr} {s t : State} (h : Effect s i t) : exec i s = .next t := by
  cases h with
  | ssSync hrun hfsm => exact execSsSync_next.2 ⟨hrun, hfsm, rfl⟩
  | ssDrop b hrun hfsm hb => exact execSsDrop_next.2 ⟨hrun, ⟨hfsm, hb⟩, rfl⟩
  | siIndex b hrun hfsm hb => exact execSiIndex_next.2 ⟨hrun, ⟨hfsm, hb⟩, rfl⟩
  | siResync hrun hfsm => exact execSiResync_next.2 ⟨hrun, hfsm, rfl⟩
  | siDesync b hrun hfsm hi hb => exact execSiDesync_next.2 ⟨hrun, ⟨hfsm, hi, hb⟩, rfl⟩
  | rbByte b hrun hfsm hcnt => exact execRbByte_next.2 ⟨hrun, ⟨hfsm, hcnt⟩, rfl⟩
  | rbLastPublish b hlast hpass hidx hfill =>
    exact execRbLast_of_done hlast.run hlast.fsm hlast.cnt hpass hidx hfill
  | rbLastStore b hlast hpass hdone =>
    have hnot : (s.putByte 21 b).store.revolutionDone = false :=
      Bool.eq_false_iff.2 (mt (putByte_store_revolutionDone s b).1 hdone)
    exact (execRbLast_of_pass hlast.run hlast.fsm hlast.cnt hpass).trans (by rw [assemble_of_not_done hnot])
  | rbLastMismatch b hlast hfail => exact execRbLast_of_fail hlast.run hlast.fsm hlast.cnt hfail
  | rxTimeout hen hrun hfsm => exact execRxTimeout_next.2 ⟨hen, .inl ⟨hrun, hfsm, rfl⟩⟩
  | rxTimeoutIdle hen hidle => exact execRxTimeout_next.2 ⟨hen, .inr ⟨hidle, rfl⟩⟩
  | rxDisconnect hrun => exact execRxDisconnect_next.2 (.inl ⟨hrun, rfl⟩)
  | rxDisconnectIdle hrun => exact execRxDisconnect_next.2 (.inr ⟨hrun, rfl⟩)
  | ctlStart hrun => exact execCtlStart_next.2 (.inl ⟨hrun, rfl⟩)
  | ctlStartIdle hrun => exact execCtlStart_next.2 (.inr ⟨hrun, rfl⟩)
  | ctlStop hrun => exact execCtlStop_next.2 (.inl ⟨hrun, rfl⟩)
  | ctlStopIdle hrun => exact execCtlStop_next.2 (.inr ⟨hrun, rfl⟩)
  | hostReqStopped hrun => exact execHostReq_next.2 (.inl ⟨hrun, rfl⟩)
  | hostReq hrun => exact execHostReq_of_not_stopped hrun
  | reqTimeout hen => exact execReqTimeout_next.2 ⟨hen, rfl⟩
  | hostRead addr => exact execHostRead_next.2 rfl
  | reset => exact execReset_next.2 rfl

end Sys2Proof.Machine
end

section
/-! Proofs about the invariant (10_state.md sections 3 to 6 and 8; 20_memory.md section 6; 43_scan_assembler.md): its
clauses about the parser and its clauses about the results are kept by different arguments. -/

namespace Sys2Proof.Machine

/-! ### The two parts of the invariant -/

/-- The clauses of `State.Inv` about the parser (R23, R27, R28, R29). -/
structure State.ParserInv (s : State) : Prop where
  parserIdle : s.run ≠ .running → s.fsm = .seekStart ∧ s.bodyCnt = 0
  countOnlyInBody : s.fsm ≠ .readBody → s.bodyCnt = 0
  sentinelCaptured : s.fsm ≠ .seekStart → s.pktBuf[0] = sentinel
  indexCaptured : s.fsm = .readBody → isIndexByte s.pktBuf[1] = true ∧ s.pktIdx.val + 0xA0 = s.pktBuf[1].toNat

/-- The clauses of `State.Inv` about the parameters, the counter, the fill record and the scan arrays (R30, R37, R76,
R217). -/
structure State.ResultsInv (s : State) : Prop where
  configLegal : s.cfg.legal = true
  errCountFits : s.errCount.toNat < 2 ^ s.cfg.errW
  seenUnused : s.cfg.fillGuard = false → ∀ i : PktIndex, s.seen[i] = false
  unpublishedZero : s.pubValid = false → s.pub = zeroScan ∧ s.resp = zeroScan
  publishedFilled : s.cfg.fillGuard = true → s.pubValid = true → ∀ i : PktIndex, s.seen[i] = true
  unseenZero : s.cfg.fillGuard = true → ∀ i : PktIndex, s.seen[i] = false → ∀ k : Lane, s.work[angleOf i k] = 0

theorem inv_iff {s : State} :
    s.Inv ↔ s.ParserInv ∧ (s.run = .stopped → s.reqPending = false) ∧ s.ResultsInv :=
  ⟨fun ⟨h1, h2, h3, h4, h5, h6, h7, h8, h9, h10, h11⟩ => ⟨⟨h1, h3, h4, h5⟩, h2, ⟨h6, h7, h8, h9, h10, h11⟩⟩,
    fun ⟨⟨h1, h3, h4, h5⟩, h2, ⟨h6, h7, h8, h9, h10, h11⟩⟩ => ⟨h1, h2, h3, h4, h5, h6, h7, h8, h9, h10, h11⟩⟩

/-! ### The parser -/

/-- At packet byte 0 nothing is captured yet that a clause speaks of. -/
theorem parserInv_of_start {s : State} (hfsm : s.fsm = .seekStart) (hcnt : s.bodyCnt = 0) : s.ParserInv where
  parserIdle _ := ⟨hfsm, hcnt⟩
  countOnlyInBody _ := hcnt
  sentinelCaptured h := absurd hfsm h
  indexCaptured h := nomatch hfsm.symm.trans h

/-- After the sentinel: it is packet byte 0, and the count is 0. -/
theorem parserInv_of_seekIndex {s : State} (hrun : s.run = .running) (hfsm : s.fsm = .seekIndex) (hcnt : s.bodyCnt = 0)
    (hbyte : s.pktBuf[0] = sentinel) : s.ParserInv where
  parserIdle h := absurd hrun h
  countOnlyInBody _ := hcnt
  sentinelCaptured _ := hbyte
  indexCaptured h := nomatch hfsm.symm.trans h

/-- In the body: packet bytes 0 and 1 are the sentinel and the index byte. -/
theorem parserInv_of_readBody {s : State} (hrun : s.run = .running) (hfsm : s.fsm = .readBody)
    (hbyte : s.pktBuf[0] = sentinel)
    (hindex : isIndexByte s.pktBuf[1] = true ∧ s.pktIdx.val + 0xA0 = s.pktBuf[1].toNat) : s.ParserInv where
  parserIdle h := absurd hrun h
  countOnlyInBody h := absurd hfsm h
  sentinelCaptured _ := hbyte
  indexCaptured _ := hindex

/-- The parser's clauses depend on the lifecycle state and the parser's fields alone. -/
theorem State.ParserInv.congr {s t : State} (hs : s.ParserInv) (hrun : t.run = s.run) (hfsm : t.fsm = s.fsm)
    (hcnt : t.bodyCnt = s.bodyCnt) (hidx : t.pktIdx = s.pktIdx) (hbuf : t.pktBuf = s.pktBuf) : t.ParserInv := by
  constructor
  · rw [hrun, hfsm, hcnt]; exact hs.parserIdle
  · rw [hfsm, hcnt]; exact hs.countOnlyInBody
  · rw [hfsm, hbuf]; exact hs.sentinelCaptured
  · rw [hfsm, hbuf, hidx]; exact hs.indexCaptured

/-- The index of an index byte, as the parser records it (R153). -/
theorem packetIndex_add {b : Byte} (hb : isIndexByte b = true) : (packetIndex b).val + 0xA0 = b.toNat := by
  have hlo : 0xA0 ≤ b.toNat := ((isIndexByte_iff b).1 hb).1
  rw [packetIndex_val hb]
  omega

theorem effect_keeps_parserInv {i : Instr} {s t : State} (h : Effect s i t) (hs : s.ParserInv) : t.ParserInv := by
  cases h with
  | ssSync hrun hfsm =>
    have hcnt : s.bodyCnt = 0 := hs.countOnlyInBody (by rw [hfsm]; decide)
    exact parserInv_of_seekIndex hrun rfl hcnt (by simp)
  | ssDrop b hrun hfsm hb => exact hs.congr rfl rfl rfl rfl rfl
  | siIndex b hrun hfsm hb =>
    have hbyte : s.pktBuf[0] = sentinel := hs.sentinelCaptured (by rw [hfsm]; decide)
    exact parserInv_of_readBody hrun rfl (by simpa using hbyte) (by simpa using ⟨hb, packetIndex_add hb⟩)
  | siResync hrun hfsm =>
    have hcnt : s.bodyCnt = 0 := hs.countOnlyInBody (by rw [hfsm]; decide)
    exact parserInv_of_seekIndex hrun hfsm hcnt (by simp)
  | siDesync b hrun hfsm hi hb => exact parserInv_of_start rfl (hs.countOnlyInBody (by rw [hfsm]; decide))
  | rbByte b hrun hfsm hcnt =>
    have hbyte : s.pktBuf[0] = sentinel := hs.sentinelCaptured (by rw [hfsm]; decide)
    have hindex := hs.indexCaptured hfsm
    have hkeep (j : PktByte) (hj : j.val < 2) : (s.putByte (bodyByte s.bodyCnt) b).pktBuf[j] = s.pktBuf[j] := by
      rw [putByte_pktBuf_at, if_neg (by rw [eq_bodyByte_iff]; omega)]
    refine parserInv_of_readBody hrun hfsm ((hkeep 0 (by decide)).trans hbyte) ?_
    have h1 : (s.putByte (bodyByte s.bodyCnt) b).pktBuf[1] = s.pktBuf[1] := hkeep 1 (by decide)
    exact ⟨(congrArg isIndexByte h1).trans hindex.1, hindex.2.trans (congrArg BitVec.toNat h1.symm)⟩
  | ctlStart hrun =>
    obtain ⟨hfsm, hcnt⟩ := hs.parserIdle (by rw [hrun]; decide)
    exact parserInv_of_start hfsm hcnt
  | rbLastPublish | rbLastStore | rbLastMismatch | rxTimeout | rxDisconnect | reset => exact parserInv_of_start rfl rfl
  | ctlStop => exact parserInv_of_start (by simp) (by simp)
  | rxTimeoutIdle | rxDisconnectIdle | ctlStartIdle | ctlStopIdle => exact hs
  | hostReqStopped | hostReq | hostRead => exact hs.congr rfl rfl rfl rfl rfl
  | reqTimeout => exact hs.congr (by simp) (by simp) (by simp) (by simp) (by simp)

/-! ### The request -/

/-- In STOPPED no request is outstanding after a step, if none was before one from STOPPED (R24). -/
theorem effect_keeps_stoppedAnswered {i : Instr} {s t : State} (h : Effect s i t)
    (hs : s.run = .stopped → s.reqPending = false) (ht : t.run = .stopped) : t.reqPending = false := by
  cases h with
  | ctlStop | reqTimeout | reset => simp
  | rbLastPublish b hlast => simp [hlast.run] at ht
  | rbLastStore b hlast => simp [hlast.run] at ht
  | rbLastMismatch b hlast => simp [hlast.run] at ht
  | hostReq hrun => exact absurd ht hrun
  | rxDisconnect | ctlStart => cases ht
  | _ => exact hs ht

/-! ### The results -/

/-- The clauses about the results depend on these fields alone. -/
theorem State.ResultsInv.congr {s t : State} (hs : s.ResultsInv) (hcfg : t.cfg = s.cfg)
    (herr : t.errCount = s.errCount) (hwork : t.work = s.work) (hseen : t.seen = s.seen) (hpub : t.pub = s.pub)
    (hvalid : t.pubValid = s.pubValid) (hresp : t.resp = s.resp) : t.ResultsInv := by
  constructor
  · rw [hcfg]; exact hs.configLegal
  · rw [hcfg, herr]; exact hs.errCountFits
  · rw [hcfg, hseen]; exact hs.seenUnused
  · rw [hvalid, hpub, hresp]; exact hs.unpublishedZero
  · rw [hcfg, hvalid, hseen]; exact hs.publishedFilled
  · rw [hcfg, hseen, hwork]; exact hs.unseenZero

/-- Storing a packet fills the slots of its own index only, and marks just that index. -/
theorem store_keeps_resultsInv {s : State} (hs : s.ResultsInv) : s.store.ResultsInv where
  configLegal := by simpa using hs.configLegal
  errCountFits := by simpa using hs.errCountFits
  seenUnused hg i := by
    rw [State.store_cfg] at hg
    simpa [store_seen_at, hg] using hs.seenUnused hg i
  unpublishedZero := by simpa using hs.unpublishedZero
  publishedFilled hg hv i := by
    rw [State.store_cfg] at hg
    rw [State.store_pubValid] at hv
    rw [store_seen_at, hs.publishedFilled hg hv i, Bool.true_or]
  unseenZero hg i hi k := by
    rw [State.store_cfg] at hg
    rw [store_seen_at, hg, Bool.true_and, Bool.or_eq_false_iff, beq_eq_false_iff_ne] at hi
    obtain ⟨hunseen, hother⟩ := hi
    rw [store_work, angleOf_div, if_neg (fun h => hother (Fin.ext h))]
    exact hs.unseenZero hg i hunseen k

/-- After a packet 89 that completes the revolution every index has been seen (R217). -/
theorem store_all_seen {s : State} (hidx : s.pktIdx.val = 89) (hfill : s.fillReady) (hg : s.cfg.fillGuard = true)
    (i : PktIndex) : s.store.seen[i] = true := by
  rw [store_seen_at, hg, Bool.true_and]
  by_cases hi : i.val = 89
  · rw [beq_iff_eq.2 (Fin.ext (hi.trans hidx.symm)), Bool.or_true]
  · rw [hfill hg i hi, Bool.true_or]

/-- Publication keeps the results' clauses where, with FILL_GUARD, every index has been seen. -/
theorem publish_keeps_resultsInv {s : State} (hs : s.ResultsInv)
    (hseen : s.cfg.fillGuard = true → ∀ i : PktIndex, s.seen[i] = true) : s.publish.ResultsInv where
  configLegal := by simpa using hs.configLegal
  errCountFits := by simpa using hs.errCountFits
  seenUnused := by simpa using hs.seenUnused
  unpublishedZero := by simp
  publishedFilled hg _ := by simpa using hseen (by simpa using hg)
  unseenZero := by simpa using hs.unseenZero

theorem countMismatch_keeps_resultsInv {s : State} (hs : s.ResultsInv) : s.countMismatch.ResultsInv where
  configLegal := by simpa using hs.configLegal
  errCountFits := by simpa using bumpErr_lt s.cfg s.errCount
  seenUnused := by simpa using hs.seenUnused
  unpublishedZero := by simpa using hs.unpublishedZero
  publishedFilled := by simpa using hs.publishedFilled
  unseenZero := by simpa using hs.unseenZero

/-- A cleared record satisfies the results' clauses, whatever the legal parameters are (R310). -/
theorem clear_resultsInv {s : State} (hlegal : s.cfg.legal = true) : s.clear.ResultsInv where
  configLegal := hlegal
  errCountFits := Nat.two_pow_pos _
  seenUnused _ i := by simp
  unpublishedZero _ := ⟨rfl, rfl⟩
  publishedFilled _ h := nomatch h
  unseenZero _ i _ k := by simp [zeroScan]

theorem effect_keeps_resultsInv {i : Instr} {s t : State} (h : Effect s i t) (hs : s.ResultsInv) : t.ResultsInv := by
  have hput (b : Byte) : (s.putByte 21 b).ResultsInv := hs.congr rfl rfl rfl rfl rfl rfl rfl
  cases h with
  | rbLastPublish b hlast hpass hidx hfill =>
    have hpublish := publish_keeps_resultsInv (store_keeps_resultsInv (hput b)) fun hg =>
      store_all_seen (s := s.putByte 21 b) hidx hfill (by simpa using hg)
    exact hpublish.congr rfl rfl rfl rfl rfl rfl rfl
  | rbLastStore b => exact (store_keeps_resultsInv (hput b)).congr rfl rfl rfl rfl rfl rfl rfl
  | rbLastMismatch b => exact (countMismatch_keeps_resultsInv (hput b)).congr rfl rfl rfl rfl rfl rfl rfl
  | reset => exact clear_resultsInv (by simpa using hs.configLegal)
  | ctlStop | reqTimeout =>
    exact hs.congr (by simp) (by simp) (by simp) (by simp) (by simp) (by simp) (by simp)
  | _ => exact hs.congr rfl rfl rfl rfl rfl rfl rfl

/-! ### The whole invariant -/

/-- Every instruction keeps the invariant where it answers a next state. -/
theorem exec_keeps_inv {i : Instr} {s t : State} (hs : s.Inv) (h : exec i s = .next t) : t.Inv := by
  obtain ⟨hparser, hreq, hresults⟩ := inv_iff.1 hs
  have he := effect_of_exec h
  exact inv_iff.2 ⟨effect_keeps_parserInv he hparser, effect_keeps_stoppedAnswered he hreq,
    effect_keeps_resultsInv he hresults⟩

/-- The invariant does not speak of the events that are still offered. -/
theorem inv_with_events {s : State} (hs : s.Inv) (ws : List EventWord) : { s with events := ws }.Inv := by
  obtain ⟨hparser, hreq, hresults⟩ := inv_iff.1 hs
  exact inv_iff.2 ⟨hparser.congr rfl rfl rfl rfl rfl, hreq, hresults.congr rfl rfl rfl rfl rfl rfl rfl⟩

/-- Settles O35: taking the event changes no clause, and the instruction it decodes to keeps every one. -/
theorem stepKeepsInv : Obligations.StepKeepsInv := by
  unfold Obligations.StepKeepsInv
  intro s t hs h
  obtain ⟨w, s', i, hn, -, hexec⟩ := step_next h
  obtain ⟨rest, -, rfl⟩ := nextEvent_state hn
  exact exec_keeps_inv (inv_with_events hs rest) hexec

/-- Settles O34: State.reset is a cleared record with the parser at packet byte 0. -/
theorem resetSatisfiesInv : Obligations.ResetSatisfiesInv := by
  unfold Obligations.ResetSatisfiesInv
  have hresults : State.reset.clear.ResultsInv := clear_resultsInv (by decide)
  exact inv_iff.2 ⟨parserInv_of_start rfl rfl, fun _ => rfl, hresults⟩

end Sys2Proof.Machine
end

section
/-! Proofs about the events other than bytes (44_host_interface.md; 70_reset_and_hazards.md section 1): the whole next
state of each. -/

namespace Sys2Proof.Machine

/-- Settles O14: the three cases of R243. -/
theorem rxTimeoutDiscardsPartialPacket : Obligations.RxTimeoutDiscardsPartialPacket := by
  unfold Obligations.RxTimeoutDiscardsPartialPacket
  refine ⟨by decide, fun s => ⟨fun hen hrun hfsm => ?_, fun hen hidle => ?_, fun hen => ?_⟩⟩
  · exact exec_of_effect (.rxTimeout hen hrun hfsm)
  · exact exec_of_effect (.rxTimeoutIdle hen (by tauto))
  · simp [exec, execRxTimeout, hen]

/-- Settles O15: the event has an effect in IDLE and RUNNING, which the other two states are not. -/
theorem rxDisconnectKeepsPublishedScan : Obligations.RxDisconnectKeepsPublishedScan := by
  unfold Obligations.RxDisconnectKeepsPublishedScan
  refine ⟨by decide, fun s => ⟨fun hrun => exec_of_effect (.rxDisconnect hrun), fun hrun => ?_⟩⟩
  refine exec_of_effect (.rxDisconnectIdle ?_)
  rcases hrun with hrun | hrun <;> simp [hrun]

/-- Settles O16: the two cases of R244. -/
theorem ctlStartOnlyLeavesIdle : Obligations.CtlStartOnlyLeavesIdle := by
  unfold Obligations.CtlStartOnlyLeavesIdle
  exact ⟨by decide, fun s => ⟨fun hrun => exec_of_effect (.ctlStart hrun),
    fun hrun => exec_of_effect (.ctlStartIdle hrun)⟩⟩

/-- Settles O17: the two cases of R245, the request completed as one record update. -/
theorem ctlStopAnswersPendingRequest : Obligations.CtlStopAnswersPendingRequest := by
  unfold Obligations.CtlStopAnswersPendingRequest
  refine ⟨by decide, fun s => ⟨fun hrun => ?_, fun hrun => exec_of_effect (.ctlStopIdle hrun)⟩⟩
  rw [exec_of_effect (.ctlStop hrun), completeRequest_eq]
  rfl

/-- Settles O18: the two cases of R247. -/
theorem hostReqWaitsForFreshPublication : Obligations.HostReqWaitsForFreshPublication := by
  unfold Obligations.HostReqWaitsForFreshPublication
  exact ⟨by decide, fun s => ⟨fun hrun => exec_of_effect (.hostReqStopped hrun),
    fun hrun => exec_of_effect (.hostReq hrun)⟩⟩

/-- Settles O19: the two cases of R249, the request completed as one record update. -/
theorem reqTimeoutCompletesWithoutScan : Obligations.ReqTimeoutCompletesWithoutScan := by
  unfold Obligations.ReqTimeoutCompletesWithoutScan
  refine ⟨by decide, fun s => ⟨fun hen => ?_, fun hen => ?_⟩⟩
  · rw [exec_of_effect (.reqTimeout hen), completeRequest_eq]
  · simp [exec, execReqTimeout, hen]

/-- Every slot of the reset scan array is 0 (R310). -/
theorem zeroScan_at (a : Angle) : zeroScan[a] = 0 := by
  simp [zeroScan]

/-- Settles O22: the cleared record, after the pending request is completed. -/
theorem resetClearsWholeRecord : Obligations.ResetClearsWholeRecord := by
  unfold Obligations.ResetClearsWholeRecord
  refine ⟨by decide, fun s => ⟨_, exec_of_effect .reset, rfl, rfl, rfl, rfl, fun j => by simp, rfl, rfl, zeroScan_at,
    fun j => by simp, zeroScan_at, rfl, rfl, zeroScan_at, ?_⟩⟩
  rw [completeRequest_eq]
  exact ⟨rfl, rfl, rfl⟩

/-- Settles O23: the cleared record with the baseline parameters is State.reset, field by field. -/
theorem powerOnEqualsReset : Obligations.PowerOnEqualsReset := by
  unfold Obligations.PowerOnEqualsReset
  intro s hcfg
  refine ⟨_, exec_of_effect .reset, ?_⟩
  rw [completeRequest_eq, State.reset, ← hcfg]
  rfl

end Sys2Proof.Machine
end

section
/-! Proofs about the host read space (20_memory.md R62, R63; 10_state.md R33): STATUS bit by bit, and the word of every
address of the map. -/

namespace Sys2Proof.Machine

/-! ### STATUS -/

/-- The value of two bit fields side by side. -/
theorem append_toNat {m n : Nat} (x : BitVec m) (y : BitVec n) : (x ++ y).toNat = 2 ^ n * x.toNat + y.toNat := by
  rw [BitVec.toNat_append, ← Nat.shiftLeft_add_eq_or_of_lt y.isLt, Nat.shiftLeft_eq, Nat.mul_comm]

/-- STATUS as a number, field by field (R33). -/
theorem statusWord_toNat (s : State) : (statusWord s).toNat =
    (runCode s.run).toNat + 4 * (fsmCode s.fsm).toNat + 16 * s.reqPending.toNat + 32 * s.pubValid.toNat +
      64 * s.cfg.fillGuard.toNat + 128 * s.cfg.rxTimeoutEn.toNat + 256 * s.cfg.reqTimeoutEn.toNat := by
  simp only [statusWord, append_toNat, BitVec.toNat_ofBool, BitVec.toNat_zero]
  omega

/-- A bit of a word, read off the word as a number. -/
theorem getLsbD_of_div_mod {w : Word} {i : Nat} {b : Bool} (h : w.toNat / 2 ^ i % 2 = b.toNat) : w.getLsbD i = b := by
  rw [BitVec.getLsbD, Nat.testBit_eq_decide_div_mod_eq, h]
  cases b <;> rfl

/-- Settles O21: STATUS as a number, every field below its weight's next multiple. -/
theorem statusWordLayout : Obligations.StatusWordLayout := by
  unfold Obligations.StatusWordLayout
  intro s
  have hrun := (runCode s.run).isLt
  have hfsm := (fsmCode s.fsm).isLt
  have hreq := s.reqPending.toNat_le
  have hvalid := s.pubValid.toNat_le
  have hguard := s.cfg.fillGuard.toNat_le
  have hrx := s.cfg.rxTimeoutEn.toNat_le
  have hrt := s.cfg.reqTimeoutEn.toNat_le
  have hword := statusWord_toNat s
  have hruncode : (statusWord s).toNat % 4 = (runCode s.run).toNat := by omega
  have hfsmcode : (statusWord s).toNat / 4 % 4 = (fsmCode s.fsm).toNat := by omega
  exact ⟨hruncode.trans (by cases s.run <;> rfl), hfsmcode.trans (by cases s.fsm <;> rfl),
    getLsbD_of_div_mod (by omega), getLsbD_of_div_mod (by omega), getLsbD_of_div_mod (by omega),
    getLsbD_of_div_mod (by omega), getLsbD_of_div_mod (by omega), by omega⟩

/-! ### The map -/

/-- Clearing bits [1:0] is shifting them out and back. -/
theorem alignAddr_eq_shift (addr : HostAddr) : alignAddr addr = (addr >>> 2) <<< 2 := by
  have hmask : ∀ i : Fin 24, (0xFFFFFC#24).getLsbD i.val = decide (2 ≤ i.val) := by decide
  apply BitVec.eq_of_getLsbD_eq
  intro i hi
  rw [alignAddr, BitVec.getLsbD_and, hmask ⟨i, hi⟩, BitVec.getLsbD_shiftLeft, BitVec.getLsbD_ushiftRight]
  by_cases h2 : 2 ≤ i
  · rw [Nat.add_sub_cancel' h2]
    simp [h2, hi]
    omega
  · simp [h2]
    omega

/-- An aligned address is four times its word number (R63). -/
theorem alignAddr_toNat (addr : HostAddr) : (alignAddr addr).toNat = 4 * (addr.toNat / 4) := by
  rw [alignAddr_eq_shift, BitVec.toNat_shiftLeft, BitVec.toNat_ushiftRight, Nat.shiftLeft_eq,
    Nat.shiftRight_eq_div_pow]
  omega

theorem scanWord_angle (v : ScanArray) (a : Angle) : scanWord v a.val = v[a] := dif_pos a.isLt

theorem errCountReg_toNat (cfg : Config) (e : Word) : (errCountReg cfg e).toNat = e.toNat % 2 ^ cfg.errW := by
  rw [errCountReg, BitVec.toNat_ofNat]
  exact Nat.mod_eq_of_lt (Nat.lt_of_le_of_lt (Nat.mod_le _ _) e.isLt)

/-- A host read sees the word number of its address only (R63). -/
theorem memRead_eq (s : State) (addr : HostAddr) : memRead s addr = mapWord s (4 * (addr.toNat / 4)) := by
  rw [memRead, alignAddr_toNat]

theorem mapWord_resp (s : State) (a : Angle) : mapWord s (4 * (0x100 + a.val)) = s.resp[a] := by
  have hword : (4 * (0x100 + a.val) - 0x400) / 4 = a.val := by omega
  unfold mapWord
  rw [if_neg (by omega), if_neg (by omega), if_neg (by omega), if_pos (by omega), hword, scanWord_angle]

theorem mapWord_pub (s : State) (a : Angle) : mapWord s (4 * (0x400 + a.val)) = s.pub[a] := by
  have hword : (4 * (0x400 + a.val) - 0x1000) / 4 = a.val := by omega
  unfold mapWord
  rw [if_neg (by omega), if_neg (by omega), if_neg (by omega), if_neg (by omega), if_pos (by omega), hword,
    scanWord_angle]

/-- Outside the registers and the two windows the map reads 0 (R62). -/
theorem mapWord_reserved (s : State) {n : Nat}
    (h : (3 ≤ n ∧ n < 0x100) ∨ (0x268 ≤ n ∧ n < 0x400) ∨ 0x568 ≤ n) : mapWord s (4 * n) = 0 := by
  unfold mapWord
  rw [if_neg (by omega), if_neg (by omega), if_neg (by omega), if_neg (by omega), if_neg (by omega)]

/-- Class and payload of an event word side by side (R98). -/
theorem eventWord_toNat (c : Byte) (p : HostAddr) : (eventWord c p).toNat = c.toNat * 2 ^ 24 + p.toNat := by
  have hclass := eventClass_toNat (eventWord c p)
  have hpayload := eventPayload_toNat (eventWord c p)
  rw [eventClass_eventWord] at hclass
  rw [eventPayload_eventWord] at hpayload
  omega

/-- Settles O20: the word number picks the line of the map; the reads of each line are `mapWord`'s. -/
theorem hostReadReturnsMappedWord : Obligations.HostReadReturnsMappedWord := by
  unfold Obligations.HostReadReturnsMappedWord
  refine fun s addr => ⟨eventWord_toNat _ _, memRead s addr, exec_of_effect (.hostRead addr), ?_⟩
  rw [memRead_eq]
  refine ⟨fun h => ?_, fun h => ?_, fun h => ?_, fun a h => ?_, fun a h => ?_, mapWord_reserved s⟩ <;> rw [h]
  · rfl
  · exact errCountReg_toNat s.cfg s.errCount
  · exact BitVec.toNat_setWidth_of_le (w := 16) (w' := 32) (by decide)
  · exact mapWord_resp s a
  · exact mapWord_pub s a

end Sys2Proof.Machine
end

section
/-! Proofs about RB_LAST (41_framer.md section 3; 43_scan_assembler.md): the whole effect of a mismatch and of a packet
that passes. -/

namespace Sys2Proof.Machine

/-- Settles O8: the mismatch branch, one record update. -/
theorem discardedPacketOnlyCounted : Obligations.DiscardedPacketOnlyCounted := by
  unfold Obligations.DiscardedPacketOnlyCounted
  rintro s b buf hrun hfsm hcnt rfl hne
  exact exec_of_effect (.rbLastMismatch b ⟨hrun, hfsm, hcnt⟩ (packetPasses_false_iff.2 hne))

/-- A 16-bit field as a number (R14). -/
theorem le16_toNat (b0 b1 : Byte) : (le16 b0 b1).toNat = b0.toNat + 256 * b1.toNat := by
  have h0 := b0.isLt
  have h1 := b1.isLt
  have hshift : (b1.setWidth 16 <<< 8).toNat = b1.toNat <<< 8 := by
    rw [BitVec.toNat_shiftLeft, BitVec.toNat_setWidth_of_le (by decide), Nat.mod_eq_of_lt]
    rw [Nat.shiftLeft_eq]
    omega
  rw [le16, BitVec.toNat_or, hshift, BitVec.toNat_setWidth_of_le (by decide), Nat.or_comm,
    ← Nat.shiftLeft_add_eq_or_of_lt h0, Nat.shiftLeft_eq]
  omega

/-- The last packet byte is the high byte of the received checksum (R96). -/
theorem receivedChk_high_bit {s : State} {b : Byte} (hb : 128 ≤ b.toNat) :
    2 ^ 15 ≤ (receivedChk (s.putByte 21 b).pktBuf).toNat := by
  have hbyte : (s.putByte 21 b).pktBuf[21] = b := by simp
  rw [receivedChk, le16_toNat, hbyte]
  omega

/-- A received checksum of more than 15 bits never equals the computed one (D4). -/
theorem not_packetPasses_of_high_bit {s : State} {b : Byte} (hb : 128 ≤ b.toNat) :
    packetPasses (s.putByte 21 b).pktBuf = false := by
  rw [packetPasses_false_iff]
  intro h
  have hhigh := receivedChk_high_bit (s := s) hb
  have hlow := (computedChk (s.putByte 21 b).pktBuf).isLt
  rw [h, BitVec.toNat_setWidth_of_le (by decide)] at hhigh
  omega

/-- Settles O52: the computed checksum has 15 bits, so the packet fails, and a failing packet is counted only. -/
theorem highChecksumBitAlwaysFails : Obligations.HighChecksumBitAlwaysFails := by
  unfold Obligations.HighChecksumBitAlwaysFails
  intro s b hrun hfsm hcnt hb hlegal
  refine ⟨_, exec_of_effect (.rbLastMismatch b ⟨hrun, hfsm, hcnt⟩ (not_packetPasses_of_high_bit hb)), ?_⟩
  exact ⟨by simp, by simp, by simp, bumpErr_toNat (Config.errW_le hlegal) s.errCount⟩

/-- The stored packet's readings in the slots of its index, every other slot as before, as four bytes each (R212). -/
theorem putByte_store_work (s : State) (b : Byte) (a : Angle) :
    (s.putByte 21 b).store.work[a] =
      if a.val / 4 = s.pktIdx.val then laneWord (s.pktBuf.set 21 b) ⟨a.val % 4, by omega⟩ else s.work[a] :=
  store_work (s.putByte 21 b) a

/-- Settles O10: RB_LAST stores the packet and, exactly where the revolution is done, publishes it. -/
theorem passingPacketFullEffect : Obligations.PassingPacketFullEffect := by
  unfold Obligations.PassingPacketFullEffect
  rintro s b buf hrun hfsm hcnt rfl hchk
  have hlast : s.AwaitsLast := ⟨hrun, hfsm, hcnt⟩
  have hpass : packetPasses (s.putByte 21 b).pktBuf = true := packetPasses_iff.2 hchk
  have hwork := putByte_store_work s b
  have hseen := store_seen_at (s.putByte 21 b)
  by_cases hdone : s.pktIdx.val = 89 ∧ s.fillReady
  · refine ⟨_, exec_of_effect (.rbLastPublish b hlast hpass hdone.1 hdone.2), by simpa using hrun, rfl, rfl, by simp,
      by simp, by simp, by simp, by simp, by simp [speedRaw], fun a => ?_, fun j => ?_, fun _ => ?_,
      fun h => absurd hdone h⟩
    · rw [State.discardPartial_work, State.publish_work]; exact hwork a
    · rw [State.discardPartial_seen, State.publish_seen]; exact hseen j
    · refine ⟨by simp, by simp, by simp, by simp, ?_⟩
      cases hreq : s.reqPending <;> simp [hreq]
  · refine ⟨_, exec_of_effect (.rbLastStore b hlast hpass hdone), by simpa using hrun, rfl, rfl, by simp, by simp,
      by simp, by simp, by simp, by simp [speedRaw], hwork, hseen, fun h => absurd h hdone, fun _ => by simp⟩

end Sys2Proof.Machine
end

section
/-! Proofs of the whole-machine rules (20_memory.md section 6; 44_host_interface.md section 4; 60_exceptions.md;
70_reset_and_hazards.md section 3): which instruction may change what, read off `Effect` case by case. -/

namespace Sys2Proof.Machine

/-- Settles O49: only these four effects write RUN. -/
theorem lifecycleTransitions : Obligations.LifecycleTransitions := by
  unfold Obligations.LifecycleTransitions
  intro i s t h hne
  cases effect_of_exec h with
  | ctlStart hrun => exact .inl ⟨rfl, hrun, rfl⟩
  | ctlStop hrun => exact .inr (.inl ⟨rfl, by simp⟩)
  | rxDisconnect hrun => exact .inr (.inr (.inl ⟨rfl, hrun, rfl⟩))
  | reset => exact .inr (.inr (.inr ⟨rfl, rfl⟩))
  | _ => simp at hne

/-- Settles O44: PUB is written by a publication, which copies WORK, and by RESET. -/
theorem pubChangesOnlyAtPublication : Obligations.PubChangesOnlyAtPublication := by
  unfold Obligations.PubChangesOnlyAtPublication
  intro i s t h hne
  cases effect_of_exec h with
  | reset => exact .inl ⟨rfl, rfl, zeroScan_at⟩
  | rbLastPublish b hlast hpass hidx => exact .inr ⟨⟨b, rfl⟩, hlast.run, hidx, by simp, by simp⟩
  | _ => simp at hne

/-- Settles O43: RESP is written by the hand-off of a publication to a pending request, and by RESET. -/
theorem respChangesOnlyWithScanResponse : Obligations.RespChangesOnlyWithScanResponse := by
  unfold Obligations.RespChangesOnlyWithScanResponse
  intro i s t h hne
  cases effect_of_exec h with
  | reset => exact .inl ⟨rfl, zeroScan_at⟩
  | rbLastPublish b =>
    cases hreq : s.reqPending with
    | true => exact .inr ⟨rfl, by simp, by simp [hreq], by simp, by simp [hreq]⟩
    | false => simp [hreq] at hne
  | _ => simp at hne

/-- Settles O45: the counter is written by the mismatch branch of RB_LAST, and by RESET. -/
theorem errCountChangesOnlyOnMismatch : Obligations.ErrCountChangesOnlyOnMismatch := by
  unfold Obligations.ErrCountChangesOnlyOnMismatch
  intro i s t h hlegal hne
  cases effect_of_exec h with
  | reset => exact .inl ⟨rfl, rfl⟩
  | rbLastMismatch b hlast hfail =>
    exact .inr ⟨b, rfl, hlast.run, packetPasses_false_iff.1 hfail, bumpErr_toNat (Config.errW_le hlegal) s.errCount,
      by simp⟩
  | _ => simp at hne

/-- Settles O13: a guarded publication found its fill record full; only RESET clears a bit of it. -/
theorem guardedPublicationNeedsEveryIndex : Obligations.GuardedPublicationNeedsEveryIndex := by
  unfold Obligations.GuardedPublicationNeedsEveryIndex
  intro i s t h
  have hstore (b : Byte) (j : PktIndex) (hj : s.seen[j] = true) : (s.putByte 21 b).store.seen[j] = true := by
    rw [store_seen_at, State.putByte_seen, hj, Bool.true_or]
  cases effect_of_exec h with
  | rbLastPublish b hlast hpass hidx hfill =>
    have hseen : (s.putByte 21 b).store.publish.discardPartial.seen = (s.putByte 21 b).store.seen := by simp
    rw [hseen]
    exact ⟨fun hg _ _ => ⟨hidx, ⟨b, rfl⟩, store_all_seen (s := s.putByte 21 b) hidx hfill hg, hfill hg⟩,
      fun _ => hstore b⟩
  | rbLastStore b => exact ⟨fun _ hold hnew => by simp [hold] at hnew, fun _ => hstore b⟩
  | reset => exact ⟨fun _ _ hnew => absurd hnew (by simp), fun hne => absurd rfl hne⟩
  | _ => exact ⟨fun _ hold hnew => by simp [hold] at hnew, fun _ j hj => by simpa using hj⟩

/-- Settles O41: the consumer's effects write the request and the outputs only. -/
theorem consumerEventsLeaveProducerAlone : Obligations.ConsumerEventsLeaveProducerAlone := by
  unfold Obligations.ConsumerEventsLeaveProducerAlone
  intro i s t hagent h
  cases effect_of_exec h with
  | hostReqStopped | hostReq | reqTimeout | hostRead => simp [SameProducer]
  | _ => cases hagent

/-- Settles O47: the four effects that end a request, each with its response. -/
theorem requestEndsWithItsResponse : Obligations.RequestEndsWithItsResponse := by
  unfold Obligations.RequestEndsWithItsResponse
  intro i s t h hold hnew
  cases effect_of_exec h with
  | ctlStop => exact .inl ⟨rfl, by simp [hold]⟩
  | reset => exact .inr (.inl ⟨rfl, by simp [hold]⟩)
  | reqTimeout hen => exact .inr (.inr (.inl ⟨rfl, hen, by simp [hold]⟩))
  | rbLastPublish b hlast hpass hidx =>
    exact .inr (.inr (.inr ⟨⟨b, rfl⟩, hlast.run, hidx, by simp [hold], by simp [hold]⟩))
  | _ => simp [hold] at hnew

/-- Settles O48: a response is emitted by the completion or the hand-off of a pending request, or by HOST_REQ in
STOPPED. -/
theorem noResponseWithoutRequest : Obligations.NoResponseWithoutRequest := by
  unfold Obligations.NoResponseWithoutRequest
  intro i s t r h htrace
  cases effect_of_exec h with
  | hostReqStopped hrun =>
    refine .inr ⟨rfl, hrun, ?_⟩
    simpa [eq_comm] using htrace
  | ctlStop | reset | reqTimeout | rbLastPublish =>
    cases hreq : s.reqPending with
    | true => exact .inl ⟨rfl, by simp⟩
    | false => simp [hreq] at htrace
  | _ => simp at htrace

/-! ### The packet byte number (R25, R26) -/

theorem packetByte_of_seekStart {s : State} (h : s.fsm = .seekStart) : s.packetByte = 0 := by
  simp [State.packetByte, h]

theorem packetByte_of_seekIndex {s : State} (h : s.fsm = .seekIndex) : s.packetByte = 1 := by
  simp [State.packetByte, h]

theorem packetByte_of_readBody {s : State} (h : s.fsm = .readBody) : s.packetByte = 2 + s.bodyCnt.val := by
  simp [State.packetByte, h]

/-- Settles O50: each framer operation moves one byte on or back to byte 0, and the others move back or not at all. -/
theorem sequencerAdvancesOneByte : Obligations.SequencerAdvancesOneByte := by
  unfold Obligations.SequencerAdvancesOneByte
  intro i s t h hne
  cases effect_of_exec h with
  | ssSync hrun hfsm =>
    exact .inl ⟨rfl, hrun, .inl (by rw [packetByte_of_seekIndex rfl, packetByte_of_seekStart hfsm])⟩
  | siIndex b hrun hfsm hb =>
    refine .inl ⟨rfl, hrun, .inl ?_⟩
    rw [packetByte_of_readBody rfl, packetByte_of_seekIndex hfsm]
    rfl
  | siDesync b hrun => exact .inl ⟨rfl, hrun, .inr (packetByte_of_seekStart rfl)⟩
  | rbByte b hrun hfsm hcnt =>
    refine .inl ⟨rfl, hrun, .inl ((packetByte_of_readBody (by exact hfsm)).trans ?_)⟩
    rw [packetByte_of_readBody hfsm, Nat.add_assoc]
    exact congrArg (2 + ·) (bodyCount_add_one_val hcnt)
  | rbLastPublish b hlast | rbLastStore b hlast | rbLastMismatch b hlast =>
    exact .inl ⟨rfl, hlast.run, .inr (packetByte_of_seekStart rfl)⟩
  | rxTimeout | rxDisconnect | reset => exact .inr ⟨packetByte_of_seekStart rfl, by simp⟩
  | ctlStop => exact .inr ⟨packetByte_of_seekStart (by simp), by simp⟩
  | _ => simp [State.packetByte] at hne

/-! ### The outputs of a step (R281 to R286) -/

/-- Settles O46: the outputs of each effect, a response only where a request was pending. -/
theorem conditionsRaisedByTheirOperationsOnly : Obligations.ConditionsRaisedByTheirOperationsOnly := by
  unfold Obligations.ConditionsRaisedByTheirOperationsOnly
  intro i s t h
  cases effect_of_exec h with
  | ssDrop b => exact ⟨[.cond (.desync (.byte b))], rfl, by simp⟩
  | siDesync b => exact ⟨[.cond (.desync (.byte b))], rfl, by simp⟩
  | siResync => exact ⟨[.cond (.resync sentinel)], rfl, by simp⟩
  | rxTimeout => exact ⟨[.cond (.desync .timeout)], rfl, by simp⟩
  | rxDisconnect => exact ⟨[.cond .disconnect], rfl, by simp⟩
  | rbLastMismatch b hlast hfail =>
    refine ⟨[.cond (.checksumMismatch s.pktIdx _ _)], State.countMismatch_trace _, by simp, by simp, by simp, ?_,
      by simp⟩
    intro x r c hmem
    obtain ⟨rfl, rfl, rfl⟩ : x = s.pktIdx ∧ r = _ ∧ c = _ := by simpa using hmem
    exact ⟨⟨b, rfl⟩, rfl, by simp, by simp, packetPasses_false_iff.1 hfail⟩
  | rbLastPublish b =>
    cases hreq : s.reqPending with
    | true => exact ⟨[.resp (.scan (s.putByte 21 b).store.work)], by simp [hreq], by simp⟩
    | false => exact ⟨[], by simp [hreq], by simp⟩
  | ctlStop | reset =>
    cases hreq : s.reqPending with
    | true => exact ⟨[.resp .shutdown], by simp [hreq], by simp⟩
    | false => exact ⟨[], by simp [hreq], by simp⟩
  | reqTimeout =>
    cases hreq : s.reqPending with
    | true => exact ⟨[.resp .timeout], by simp [hreq], by simp⟩
    | false => exact ⟨[], by simp [hreq], by simp⟩
  | hostReqStopped => exact ⟨[.resp .shutdown], rfl, by simp⟩
  | hostRead addr => exact ⟨[.data (memRead s addr)], rfl, by simp⟩
  | _ => exact ⟨[], by simp, by simp⟩

/-! ### Noninterference (R78, R297) -/

/-- The producer side of p with the consumer's side, the offered events and the outputs of s. -/
def State.withConsumerOf (p s : State) : State :=
  { p with reqPending := s.reqPending, resp := s.resp, events := s.events, trace := s.trace }

/-- States that agree on the producer side differ in the consumer's side only. -/
theorem SameProducer.eq_withConsumerOf {s t : State} (h : SameProducer s t) : t = s.withConsumerOf t := by
  cases s
  cases t
  obtain ⟨h1, h2, h3, h4, h5, h6, h7, h8, h9, h10, h11, h12⟩ := h
  simp only at h1 h2 h3 h4 h5 h6 h7 h8 h9 h10 h11 h12
  subst h1 h2 h3 h4 h5 h6 h7 h8 h9 h10 h11 h12
  rfl

/-- Every condition of an effect is about the producer side, and so is what the effect writes of it. -/
theorem effect_withConsumerOf {i : Instr} {s t : State} (h : Effect s i t) (c : State) :
    ∃ t', Effect (s.withConsumerOf c) i t' ∧ SameProducer t t' := by
  refine match h with
    | .ssSync hrun hfsm => ⟨_, .ssSync hrun hfsm, ?_⟩
    | .ssDrop b hrun hfsm hb => ⟨_, .ssDrop b hrun hfsm hb, ?_⟩
    | .siIndex b hrun hfsm hb => ⟨_, .siIndex b hrun hfsm hb, ?_⟩
    | .siResync hrun hfsm => ⟨_, .siResync hrun hfsm, ?_⟩
    | .siDesync b hrun hfsm hi hb => ⟨_, .siDesync b hrun hfsm hi hb, ?_⟩
    | .rbByte b hrun hfsm hcnt => ⟨_, .rbByte b hrun hfsm hcnt, ?_⟩
    | .rbLastPublish b hlast hpass hidx hfill =>
      ⟨_, .rbLastPublish b ⟨hlast.run, hlast.fsm, hlast.cnt⟩ hpass hidx hfill, ?_⟩
    | .rbLastStore b hlast hpass hdone =>
      ⟨_, .rbLastStore b ⟨hlast.run, hlast.fsm, hlast.cnt⟩ hpass hdone, ?_⟩
    | .rbLastMismatch b hlast hfail => ⟨_, .rbLastMismatch b ⟨hlast.run, hlast.fsm, hlast.cnt⟩ hfail, ?_⟩
    | .rxTimeout hen hrun hfsm => ⟨_, .rxTimeout hen hrun hfsm, ?_⟩
    | .rxTimeoutIdle hen hidle => ⟨_, .rxTimeoutIdle hen hidle, ?_⟩
    | .rxDisconnect hrun => ⟨_, .rxDisconnect hrun, ?_⟩
    | .rxDisconnectIdle hrun => ⟨_, .rxDisconnectIdle hrun, ?_⟩
    | .ctlStart hrun => ⟨_, .ctlStart hrun, ?_⟩
    | .ctlStartIdle hrun => ⟨_, .ctlStartIdle hrun, ?_⟩
    | .ctlStop hrun => ⟨_, .ctlStop hrun, ?_⟩
    | .ctlStopIdle hrun => ⟨_, .ctlStopIdle hrun, ?_⟩
    | .hostReqStopped hrun => ⟨_, .hostReqStopped hrun, ?_⟩
    | .hostReq hrun => ⟨_, .hostReq hrun, ?_⟩
    | .reqTimeout hen => ⟨_, .reqTimeout hen, ?_⟩
    | .hostRead addr => ⟨_, .hostRead addr, ?_⟩
    | .reset => ⟨_, .reset, ?_⟩
  all_goals simp [SameProducer, State.withConsumerOf, State.store, State.writeLanes]
  all_goals rfl

/-- Settles O42: the second state is the first with another consumer's side. -/
theorem producerIgnoresConsumer : Obligations.ProducerIgnoresConsumer := by
  unfold Obligations.ProducerIgnoresConsumer
  intro i s1 s2 t1 hsame h
  obtain ⟨t2, heffect, hout⟩ := effect_withConsumerOf (effect_of_exec h) s2
  rw [← hsame.eq_withConsumerOf] at heffect
  exact ⟨t2, exec_of_effect heffect, hout⟩

end Sys2Proof.Machine
end

section
/-! Proofs about the step (00_scope.md section 1; 44_host_interface.md sections 1 and 5; 30_encoding.md section 4): when
an instruction has a step, which event a step takes, and what stays offered. -/

namespace Sys2Proof.Machine

/-! ### When an instruction has a step -/

/-- A framer operation is enabled by RUN, its row's position and its row's byte alone (R101, R240). -/
theorem exec_framerOp {i : Instr} (hop : i.isFramerOp = true) (s : State) :
    ∃ t, exec i s = s.ifSelected (i.selectedAt s.fsm s.bodyCnt && i.wf) t := by
  cases i with
  | ssSync => exact ⟨_, by rw [Instr.wf, Bool.and_true]; rfl⟩
  | siResync => exact ⟨_, by rw [Instr.wf, Bool.and_true]; rfl⟩
  | rbByte b => exact ⟨_, by rw [Instr.wf, Bool.and_true]; rfl⟩
  | rbLast b => exact ⟨_, by rw [Instr.wf, Bool.and_true]; rfl⟩
  | ssDrop b | siIndex b | siDesync b => exact ⟨_, rfl⟩
  | _ => cases hop

/-- Settles O33: the three outcomes of `ifSelected`. -/
theorem framerOpsRunExactlyWhereSelected : Obligations.FramerOpsRunExactlyWhereSelected := by
  unfold Obligations.FramerOpsRunExactlyWhereSelected
  intro i s hop
  obtain ⟨t, hexec⟩ := exec_framerOp hop s
  rw [hexec]
  simp only [ifSelected_next, Bool.and_eq_true]
  refine ⟨⟨fun ⟨_, hrun, hsel, _⟩ => ⟨hrun, hsel⟩, fun ⟨hrun, hsel⟩ => ⟨t, hrun, hsel, rfl⟩⟩,
    fun hrun => if_neg hrun, fun hrun hsel => ?_⟩
  rw [State.ifSelected, if_pos hrun, if_neg (by rwa [Bool.and_eq_true])]

/-- A running block performs the operation its parser selects for a byte (R150, R103). -/
theorem exec_byteOp_next {s : State} (hrun : s.run = .running) (b : Byte) :
    ∃ t, exec (byteOp s.fsm s.bodyCnt b) s = .next t := by
  obtain ⟨hop, hsel, hwf, -⟩ := byteOp_meets_row s.fsm s.bodyCnt b
  exact ((framerOpsRunExactlyWhereSelected _ s hop).1).2 ⟨hrun, hsel, hwf⟩

/-- An event that is no byte has a step in every state whose parameters have the event. -/
theorem exec_next_of_present {i : Instr} (hop : i.isFramerOp = false) {s : State} (hpres : i.presentIn s.cfg = true) :
    ∃ t, exec i s = .next t := by
  cases i with
  | rxTimeout =>
    by_cases hbusy : s.run = .running ∧ s.fsm ≠ .seekStart
    · exact ⟨_, exec_of_effect (.rxTimeout hpres hbusy.1 hbusy.2)⟩
    · exact ⟨_, exec_of_effect (.rxTimeoutIdle hpres hbusy)⟩
  | rxDisconnect =>
    by_cases hrun : s.run = .idle ∨ s.run = .running
    · exact ⟨_, exec_of_effect (.rxDisconnect hrun)⟩
    · exact ⟨_, exec_of_effect (.rxDisconnectIdle hrun)⟩
  | ctlStart =>
    by_cases hrun : s.run = .idle
    · exact ⟨_, exec_of_effect (.ctlStart hrun)⟩
    · exact ⟨_, exec_of_effect (.ctlStartIdle hrun)⟩
  | ctlStop =>
    by_cases hrun : s.run = .stopped
    · exact ⟨_, exec_of_effect (.ctlStopIdle hrun)⟩
    · exact ⟨_, exec_of_effect (.ctlStop hrun)⟩
  | hostReq =>
    by_cases hrun : s.run = .stopped
    · exact ⟨_, exec_of_effect (.hostReqStopped hrun)⟩
    · exact ⟨_, exec_of_effect (.hostReq hrun)⟩
  | reqTimeout => exact ⟨_, exec_of_effect (.reqTimeout hpres)⟩
  | hostRead addr => exact ⟨_, exec_of_effect (.hostRead addr)⟩
  | reset => exact ⟨_, exec_of_effect .reset⟩
  | _ => cases hop

/-- What a word decodes to has a step, a byte's operation where the block is running. -/
theorem exec_next_of_decodeEvent {s : State} {w : EventWord} {i : Instr} (hd : s.decodeEvent w = .ok i)
    (hrun : isByteEvent w = true → s.run = .running) : ∃ t, exec i s = .next t := by
  obtain ⟨henc, hwf, hsel, hpres⟩ := encodeOfDecode _ _ _ _ _ hd
  cases hop : i.isFramerOp with
  | true =>
    have hbyte : isByteEvent w = true := by rw [← henc, encode_framerOp hop, isByteEvent_byteWord]
    exact ((framerOpsRunExactlyWhereSelected i s hop).1).2 ⟨hrun hbyte, hsel, hwf⟩
  | false => exact exec_next_of_present hop hpres

/-! ### Which event a step takes -/

theorem ready_of_not_running {s : State} (h : s.run ≠ .running) : s.ready = false := by
  simp [State.ready, h]

/-- The word taken, the words offered before and after it, and the state that runs it (R240, R256). -/
theorem nextEvent_split {s t : State} {w : EventWord} (h : s.nextEvent = some (w, t)) :
    ∃ held tail, s.events = held ++ w :: tail ∧ t = { s with events := held ++ tail } ∧
      (∀ v ∈ held, isByteEvent v = true) ∧ (isByteEvent w = true → s.run = .running) := by
  obtain ⟨rest, htake, rfl⟩ := nextEvent_state h
  obtain ⟨held, tail, hevents, rfl, hheld, -, hother⟩ := takeEvent_split htake
  refine ⟨held, tail, hevents, rfl, hheld, fun hw => ?_⟩
  by_contra hrun
  simp [hother (ready_of_not_running hrun)] at hw

/-- With an event to take, the step answers a next state, or the word is illegal. -/
theorem step_of_nextEvent {s s' : State} {w : EventWord} (hn : s.nextEvent = some (w, s')) :
    (∃ t, step s = .next t) ∨ ∃ why, s'.decodeEvent w = .error why ∧ step s = .refused (.illegalEvent why) := by
  obtain ⟨held, tail, -, rfl, -, hrun⟩ := nextEvent_split hn
  cases hd : State.decodeEvent { s with events := held ++ tail } w with
  | error why => exact .inr ⟨why, rfl, step_of_refused hn hd⟩
  | ok i =>
    obtain ⟨t, ht⟩ := exec_next_of_decodeEvent hd hrun
    exact .inl ⟨t, (step_of_decode hn hd).trans ht⟩

/-- With no event to take, the step is a fault. -/
theorem step_of_no_event {s : State} (hn : s.nextEvent = none) : step s = .fault s.noEvent := by
  simp [step, hn]

/-- Where words are offered and none can be taken, the byte source is held up (R326). -/
theorem noEvent_of_offered {s : State} {w : EventWord} {ws : List EventWord} (h : s.events = w :: ws) :
    s.noEvent = .stalled := by
  simp [State.noEvent, h]

/-- Settles O32: a decoded event has a step, and a step is one of the three outcomes of `step_of_nextEvent`. -/
theorem legalEventsHaveAStep : Obligations.LegalEventsHaveAStep := by
  unfold Obligations.LegalEventsHaveAStep
  refine ⟨fun s t w i hn hd => ?_, fun s => ?_⟩
  · rw [← decodeEvent_of_nextEvent hn] at hd
    obtain h | ⟨why, herr, -⟩ := step_of_nextEvent hn
    · exact h
    · rw [hd] at herr
      cases herr
  · cases hn : s.nextEvent with
    | none => exact .inr (.inl ⟨_, step_of_no_event hn⟩)
    | some p =>
      obtain h | ⟨why, -, h⟩ := step_of_nextEvent hn
      · exact .inl h
      · exact .inr (.inr ⟨why, h⟩)

/-- A block that is not running passes over any number of bytes (R240, R256). -/
theorem takeEvent_bytes_other {w : EventWord} (hw : isByteEvent w = false) (held : List Byte) (rest : List EventWord) :
    takeEvent false (held.map byteWord ++ w :: rest) = some (w, held.map byteWord ++ rest) := by
  induction held with
  | nil => exact takeEvent_other hw false rest
  | cons b bs ih => simp [takeEvent_held, ih]

/-- Settles O29: what is taken decodes as before it was taken. -/
theorem stepRunsTheDecodedEvent : Obligations.StepRunsTheDecodedEvent := by
  unfold Obligations.StepRunsTheDecodedEvent
  refine ⟨fun s w rest i hrun hevents hd => step_of_decode (nextEvent_running hrun hevents) hd,
    fun s held w rest i hrun hevents hother hd => step_of_decode ?_ hd⟩
  rw [State.nextEvent, ready_of_not_running hrun, hevents, takeEvent_bytes_other hother]
  rfl

/-- A step that answers a next state leaves every offered word but the one it took. -/
theorem step_next_events {s t : State} (h : step s = .next t) :
    ∃ held w tail, s.events = held ++ w :: tail ∧ t.events = held ++ tail ∧ (∀ v ∈ held, isByteEvent v = true) ∧
      (isByteEvent w = true → s.run = .running) := by
  obtain ⟨w, s', i, hn, -, hexec⟩ := step_next h
  obtain ⟨held, tail, hevents, rfl, hheld, hrun⟩ := nextEvent_split hn
  exact ⟨held, w, tail, hevents, (exec_keeps hexec).1, hheld, hrun⟩

/-- Settles O30: a running block takes the byte offered first; any other block takes a word that is no byte. -/
theorem byteAcceptanceDependsOnRunAlone : Obligations.ByteAcceptanceDependsOnRunAlone := by
  unfold Obligations.ByteAcceptanceDependsOnRunAlone
  refine ⟨fun s b rest hrun hevents => ?_, fun s t hrun h => ?_⟩
  · obtain ⟨t, ht⟩ := exec_byteOp_next (s := { s with events := rest }) hrun b
    exact ⟨t, (step_byte hrun hevents).trans ht, (exec_keeps ht).1⟩
  · obtain ⟨held, w, tail, hevents, hrest, hheld, hbyte⟩ := step_next_events h
    exact ⟨held, w, tail, hevents, hrest, Bool.eq_false_iff.2 (mt hbyte hrun), hheld⟩

/-! ### The offered events do not matter to an instruction -/

theorem store_with_events (s : State) (ws : List EventWord) :
    { s with events := ws }.store = { s.store with events := ws } := by
  cases hg : s.cfg.fillGuard with
  | true => simp only [State.store, State.markSeen, State.writeLanes_cfg, hg, if_true]; rfl
  | false => simp only [State.store, State.markSeen, State.writeLanes_cfg, hg, Bool.false_eq_true, if_false]; rfl

theorem putByte_store_with_events (s : State) (b : Byte) (ws : List EventWord) :
    ({ s with events := ws }.putByte 21 b).store = { (s.putByte 21 b).store with events := ws } :=
  store_with_events (s.putByte 21 b) ws

theorem publish_with_events (s : State) (ws : List EventWord) :
    { s with events := ws }.publish = { s.publish with events := ws } := by
  cases hreq : s.reqPending with
  | true => simp only [State.publish, State.handOff, State.copyOut_reqPending, hreq, if_true]; rfl
  | false => simp only [State.publish, State.handOff, State.copyOut_reqPending, hreq, Bool.false_eq_true, if_false]; rfl

theorem completeRequest_with_events (s : State) (r : Response) (ws : List EventWord) :
    { s with events := ws }.completeRequest r = { s.completeRequest r with events := ws } := by
  rw [completeRequest_eq, completeRequest_eq]

/-- No effect reads or writes the words that are still offered. -/
theorem effect_with_events {i : Instr} {s t : State} (h : Effect s i t) (ws : List EventWord) :
    Effect { s with events := ws } i { t with events := ws } := by
  cases h with
  | ssSync hrun hfsm => exact .ssSync hrun hfsm
  | ssDrop b hrun hfsm hb => exact .ssDrop b hrun hfsm hb
  | siIndex b hrun hfsm hb => exact .siIndex b hrun hfsm hb
  | siResync hrun hfsm => exact .siResync hrun hfsm
  | siDesync b hrun hfsm hi hb => exact .siDesync b hrun hfsm hi hb
  | rbByte b hrun hfsm hcnt => exact .rbByte b hrun hfsm hcnt
  | rbLastPublish b hlast hpass hidx hfill =>
    have he := Effect.rbLastPublish (s := { s with events := ws }) b ⟨hlast.run, hlast.fsm, hlast.cnt⟩ hpass hidx hfill
    rw [putByte_store_with_events, publish_with_events] at he
    exact he
  | rbLastStore b hlast hpass hdone =>
    have he := Effect.rbLastStore (s := { s with events := ws }) b ⟨hlast.run, hlast.fsm, hlast.cnt⟩ hpass hdone
    rw [putByte_store_with_events] at he
    exact he
  | rbLastMismatch b hlast hfail => exact .rbLastMismatch b ⟨hlast.run, hlast.fsm, hlast.cnt⟩ hfail
  | rxTimeout hen hrun hfsm => exact .rxTimeout hen hrun hfsm
  | rxTimeoutIdle hen hidle => exact .rxTimeoutIdle hen hidle
  | rxDisconnect hrun => exact .rxDisconnect hrun
  | rxDisconnectIdle hrun => exact .rxDisconnectIdle hrun
  | ctlStart hrun => exact .ctlStart hrun
  | ctlStartIdle hrun => exact .ctlStartIdle hrun
  | ctlStop hrun => exact completeRequest_with_events _ _ ws ▸ .ctlStop hrun
  | ctlStopIdle hrun => exact .ctlStopIdle hrun
  | hostReqStopped hrun => exact .hostReqStopped hrun
  | hostReq hrun => exact .hostReq hrun
  | reqTimeout hen => exact completeRequest_with_events _ _ ws ▸ .reqTimeout hen
  | hostRead addr => exact .hostRead addr
  | reset =>
    have he := Effect.reset (s := { s with events := ws })
    rw [completeRequest_with_events] at he
    exact he

/-- Settles O31: the same word is taken behind the held byte, decodes the same and runs the same. -/
theorem heldByteStaysOffered : Obligations.HeldByteStaysOffered := by
  unfold Obligations.HeldByteStaysOffered
  intro s b rest hrun hevents
  have hheld : takeEvent s.ready s.events = (takeEvent false rest).map fun p => (p.1, byteWord b :: p.2) := by
    rw [ready_of_not_running hrun, hevents, takeEvent_held (isByteEvent_byteWord b)]
  have hwithout : takeEvent (State.ready { s with events := rest }) rest = takeEvent false rest :=
    congrArg (takeEvent · rest) (ready_of_not_running hrun)
  cases htake : takeEvent false rest with
  | none =>
    have hn : s.nextEvent = none := by rw [State.nextEvent, hheld, htake]; rfl
    have hn' : State.nextEvent { s with events := rest } = none := by rw [State.nextEvent, hwithout, htake]; rfl
    rw [step_of_no_event hn, step_of_no_event hn', noEvent_of_offered hevents]
    exact ⟨fun t h => (nomatch h), fun r h => (nomatch h), fun _ => rfl⟩
  | some p =>
    obtain ⟨w, tail⟩ := p
    have hn : s.nextEvent = some (w, { s with events := byteWord b :: tail }) := by
      rw [State.nextEvent, hheld, htake]; rfl
    have hn' : State.nextEvent { s with events := rest } = some (w, { s with events := tail }) := by
      rw [State.nextEvent, hwithout, htake]; rfl
    refine ⟨fun t h => ?_, fun r h => ?_, fun ⟨f, h⟩ => ?_⟩
    · obtain ⟨w', s', i, hn'', hd, hexec⟩ := step_next h
      obtain ⟨rfl, rfl⟩ : w = w' ∧ { s with events := tail } = s' := by simpa using hn'.symm.trans hn''
      have he := exec_of_effect (effect_with_events (effect_of_exec hexec) (byteWord b :: tail))
      rw [(exec_keeps hexec).1]
      exact (step_of_decode hn hd).trans he
    · obtain ⟨t, ht⟩ | ⟨why, hd, hr⟩ := step_of_nextEvent hn'
      · simp [ht] at h
      · rw [← h, hr]
        exact step_of_refused hn hd
    · obtain ⟨t, ht⟩ | ⟨why, -, hr⟩ := step_of_nextEvent hn'
      · simp [ht] at h
      · simp [hr] at h

end Sys2Proof.Machine
end

section
/-! Proofs about runs of any length (44_host_interface.md section 2; 60_exceptions.md section 6;
70_reset_and_hazards.md section 5): a stopped block, the end of an observed run, and the mark of a refused word. -/

namespace Sys2Proof.Machine

/-! ### A stopped block (D3, D15) -/

theorem SameProducer.refl (s : State) : SameProducer s s := by
  simp [SameProducer]

theorem SameProducer.trans {s t u : State} (hst : SameProducer s t) (htu : SameProducer t u) : SameProducer s u := by
  obtain ⟨h1, h2, h3, h4, h5, h6, h7, h8, h9, h10, h11, h12⟩ := hst
  obtain ⟨k1, k2, k3, k4, k5, k6, k7, k8, k9, k10, k11, k12⟩ := htu
  exact ⟨h1.trans k1, h2.trans k2, h3.trans k3, h4.trans k4, h5.trans k5, h6.trans k6, h7.trans k7, h8.trans k8,
    h9.trans k9, h10.trans k10, h11.trans k11, h12.trans k12⟩

/-- What a stopped block keeps. -/
structure KeepsStopped (s t : State) : Prop where
  producer : SameProducer s t
  resp : t.resp = s.resp
  noRequest : s.reqPending = false → t.reqPending = false

/-- No instruction but RESET changes the producer side, the snapshot or the absence of a request in STOPPED: the effects
that would are those of another lifecycle state. -/
theorem effect_keepsStopped {i : Instr} {s t : State} (h : Effect s i t) (hrun : s.run = .stopped) (hi : i ≠ .reset) :
    KeepsStopped s t := by
  cases h with
  | rxTimeoutIdle | rxDisconnectIdle | ctlStartIdle | ctlStopIdle => exact ⟨.refl s, rfl, id⟩
  | hostReqStopped | hostRead => exact ⟨.refl s, rfl, id⟩
  | reqTimeout => exact ⟨by simp [SameProducer], by simp, by simp⟩
  | rbLastPublish b hlast | rbLastStore b hlast | rbLastMismatch b hlast => simp [hlast.run] at hrun
  | reset => exact absurd rfl hi
  | _ => simp_all

/-- A step that runs RESET took a word of its class (R98). -/
theorem eventClass_of_decode_reset {cfg : Config} {fsm : Fsm} {cnt : BodyCount} {w : EventWord}
    (h : decode cfg fsm cnt w = .ok .reset) : eventClass w = 0xF0#8 := by
  rw [← (encodeOfDecode _ _ _ _ _ h).1]
  exact eventClass_eventWord _ _

/-- A stopped block that is offered no RESET stays as it is in a step, and is offered none after it. -/
theorem step_keepsStopped {s t : State} (hrun : s.run = .stopped) (hno : ∀ w ∈ s.events, eventClass w ≠ 0xF0#8)
    (h : step s = .next t) : KeepsStopped s t ∧ ∀ w ∈ t.events, eventClass w ≠ 0xF0#8 := by
  obtain ⟨w, s', i, hn, hd, hexec⟩ := step_next h
  obtain ⟨held, tail, hevents, rfl, -, -⟩ := nextEvent_split hn
  have hi : i ≠ .reset := by
    rintro rfl
    exact hno w (by simp [hevents]) (eventClass_of_decode_reset hd)
  obtain ⟨hprod, hresp, hreq⟩ := effect_keepsStopped (effect_of_exec hexec) hrun hi
  refine ⟨⟨hprod, hresp, hreq⟩, fun v hv => hno v ?_⟩
  rw [(exec_keeps hexec).1] at hv
  rw [hevents]
  simp only [List.mem_append, List.mem_cons] at hv ⊢
  tauto

/-- Settles O40: by induction on the number of steps. -/
theorem stoppedBlockKeepsProducerAndSnapshot : Obligations.StoppedBlockKeepsProducerAndSnapshot := by
  unfold Obligations.StoppedBlockKeepsProducerAndSnapshot
  intro n
  induction n with
  | zero =>
    intro s t _ _ h
    cases h
    exact ⟨.refl s, rfl, id⟩
  | succ n ih =>
    intro s t hrun hno h
    obtain ⟨s', hstep, hrest⟩ := run_succ_next h
    obtain ⟨⟨hprod, hresp, hreq⟩, hno'⟩ := step_keepsStopped hrun hno hstep
    obtain ⟨hprod', hresp', hreq'⟩ := ih s' t (hprod.1.symm.trans hrun) hno' hrest
    exact ⟨hprod.trans hprod', hresp'.trans hresp, hreq' ∘ hreq⟩

/-! ### The end of an observed run (R326) -/

section RunEvents
variable {n : Nat} {s t : State} {mark : Bool}

theorem runEvents_of_next (h : step s = .next t) : runEvents (n + 1) s mark = runEvents n t mark := by
  simp [runEvents, h]

theorem runEvents_of_refused {r : Refusal} (h : step s = .refused r) :
    runEvents (n + 1) s mark = runEvents n s.dropEvent true := by
  simp [runEvents, h]

theorem runEvents_of_fault {f : Fault} (h : step s = .fault f) :
    runEvents (n + 1) s mark = { state := s, refused := mark } := by
  simp [runEvents, h]

end RunEvents

theorem nextEvent_of_no_events {s : State} (h : s.events = []) : s.nextEvent = none := by
  simp [State.nextEvent, h]

/-- A step or a refusal uses up one offered word; a fault means that there is none to take. -/
theorem step_uses_event (s : State) :
    (∃ t, step s = .next t ∧ t.events.length + 1 = s.events.length) ∨
      (∃ r, step s = .refused r ∧ s.dropEvent.events.length + 1 = s.events.length) ∨
      ((∃ f, step s = .fault f) ∧ s.nextEvent = none) := by
  cases hn : s.nextEvent with
  | none => exact .inr (.inr ⟨⟨_, step_of_no_event hn⟩, rfl⟩)
  | some p =>
    obtain ⟨t, ht⟩ | ⟨why, -, hr⟩ := step_of_nextEvent hn
    · obtain ⟨held, w, tail, hevents, hrest, -, -⟩ := step_next_events ht
      exact .inl ⟨t, ht, by simp [hevents, hrest]; omega⟩
    · obtain ⟨held, tail, hevents, hstate, -, -⟩ := nextEvent_split hn
      have hdrop : s.dropEvent = p.2 := by simp [State.dropEvent, hn]
      exact .inr (.inl ⟨_, hr, by simp [hdrop, hstate, hevents]; omega⟩)

/-- With as much fuel as there are words, the run goes on until no event can be taken. -/
theorem runEvents_exhausted {n : Nat} {s : State} (hn : s.events.length ≤ n) (mark : Bool) :
    (runEvents n s mark).state.nextEvent = none := by
  induction n generalizing s mark with
  | zero => exact nextEvent_of_no_events (List.length_eq_zero_iff.1 (Nat.le_zero.1 hn))
  | succ n ih =>
    obtain ⟨t, ht, hlen⟩ | ⟨r, hr, hlen⟩ | ⟨⟨f, hf⟩, hnone⟩ := step_uses_event s
    · rw [runEvents_of_next ht]
      exact ih (by omega) mark
    · rw [runEvents_of_refused hr]
      exact ih (by omega) true
    · rwa [runEvents_of_fault hf]

/-- Settles O59: the run's fuel is the number of offered words. -/
theorem observedRunIsExhausted : Obligations.ObservedRunIsExhausted := by
  unfold Obligations.ObservedRunIsExhausted
  exact fun s ws => runEvents_exhausted (s := { s with events := s.events ++ ws }) (Nat.le_refl _) false

/-! ### The mark of a refused word (log 7) -/

/-- The mark a run starts with only shows in the mark at its end. -/
theorem runEvents_marked (n : Nat) (s : State) (mark : Bool) :
    runEvents n s true = { state := (runEvents n s mark).state, refused := true } := by
  induction n generalizing s mark with
  | zero => rfl
  | succ n ih =>
    obtain ⟨t, ht, -⟩ | ⟨r, hr, -⟩ | ⟨⟨f, hf⟩, -⟩ := step_uses_event s
    · rw [runEvents_of_next ht, runEvents_of_next ht]
      exact ih t mark
    · rw [runEvents_of_refused hr, runEvents_of_refused hr]
      exact ih s.dropEvent true
    · rw [runEvents_of_fault hf, runEvents_of_fault hf]

/-- An illegal word is no byte, so any block takes it where it is offered first. -/
theorem nextEvent_of_illegal {s : State} {w : EventWord} {ws : List EventWord} {why : Reject}
    (hd : decode s.cfg s.fsm s.bodyCnt w = .error why) (hevents : s.events = w :: ws) :
    s.nextEvent = some (w, { s with events := ws }) := by
  have hother : isByteEvent w = false := by
    rw [Bool.eq_false_iff]
    intro hbyte
    rw [decode_of_isByteEvent _ _ _ hbyte] at hd
    cases hd
  rw [State.nextEvent, hevents, takeEvent_other hother]
  rfl

/-- Settles O60: the illegal word is refused first, and the rest is the run without it, marked. -/
theorem refusedWordOnlySetsTheMark : Obligations.RefusedWordOnlySetsTheMark := by
  unfold Obligations.RefusedWordOnlySetsTheMark
  intro s w ws why hnone hd
  have hn : State.nextEvent { s with events := w :: ws } = some (w, { s with events := ws }) :=
    nextEvent_of_illegal hd rfl
  have hdrop : State.dropEvent { s with events := w :: ws } = { s with events := ws } := by
    simp [State.dropEvent, hn]
  rw [observe, observe, hnone, List.nil_append, List.nil_append, List.length_cons,
    runEvents_of_refused (step_of_refused hn hd), hdrop]
  exact runEvents_marked ws.length _ false

end Sys2Proof.Machine
end

section
/-! Proofs about the Checksum Unit (40_checksum.md): the fold as a sum with weights, the final fold, and the form that
folds the bytes as they arrive. -/

namespace Sys2Proof.Machine

/-! ### The fold as a sum -/

/-- The words of a byte sequence, each with its weight: the last one 1, every earlier one twice the next (R131). -/
def weightedSum : List Half → Nat
  | [] => 0
  | w :: ws => w.toNat * 2 ^ ws.length + weightedSum ws

/-- The fold shifts at each word, so a word has the weight 2 to the number of words after it, modulo 2^32. -/
theorem foldl_foldStep_toNat (ws : List Half) (acc : Word) :
    (ws.foldl foldStep acc).toNat = (acc.toNat * 2 ^ ws.length + weightedSum ws) % 2 ^ 32 := by
  induction ws generalizing acc with
  | nil => simpa [weightedSum] using (Nat.mod_eq_of_lt acc.isLt).symm
  | cons w ws ih =>
    have hstep : (foldStep acc w).toNat = (2 * acc.toNat + w.toNat) % 2 ^ 32 := by
      rw [foldStep, BitVec.toNat_add, BitVec.toNat_shiftLeft, BitVec.toNat_setWidth_of_le (by decide),
        Nat.shiftLeft_eq, Nat.mod_add_mod, Nat.mul_comm]
    rw [List.foldl_cons, ih, hstep, Nat.add_mod, Nat.mod_mul_mod, ← Nat.add_mod, weightedSum, List.length_cons,
      Nat.pow_succ]
    congr 1
    ring

theorem weightedSum_le (ws : List Half) : weightedSum ws ≤ 0xFFFF * (2 ^ ws.length - 1) := by
  induction ws with
  | nil => exact Nat.le_refl 0
  | cons w ws ih =>
    have hw : w.toNat * 2 ^ ws.length ≤ 0xFFFF * 2 ^ ws.length := Nat.mul_le_mul_right _ (Nat.le_of_lt_succ w.isLt)
    have hpos : 0 < 2 ^ ws.length := Nat.two_pow_pos _
    rw [weightedSum, List.length_cons, Nat.pow_succ]
    omega

/-- Up to 16 words the accumulator does not wrap (R133). -/
theorem foldWords_toNat {ws : List Half} (h : ws.length ≤ 16) : (foldWords ws).toNat = weightedSum ws := by
  have hle := weightedSum_le ws
  have hpow : 2 ^ ws.length ≤ 2 ^ 16 := Nat.pow_le_pow_right (by decide) h
  have hzero : (0 : Word).toNat = 0 := rfl
  rw [foldWords, foldl_foldStep_toNat, hzero, Nat.zero_mul, Nat.zero_add, Nat.mod_eq_of_lt]
  omega

/-- The final fold adds the low 15 bits and the rest, and drops the carry (R131, R134). -/
theorem finalFold_toNat (acc : Word) :
    (finalFold acc).toNat = (acc.toNat % 2 ^ 15 + acc.toNat / 2 ^ 15) % 2 ^ 15 := by
  have hacc := acc.isLt
  have hlow : (acc &&& 0x7FFF#32).toNat = acc.toNat % 2 ^ 15 := by
    rw [BitVec.toNat_and]
    exact Nat.and_two_pow_sub_one_eq_mod acc.toNat 15
  have hhigh : (acc >>> 15).toNat = acc.toNat / 2 ^ 15 := by
    rw [BitVec.toNat_ushiftRight, Nat.shiftRight_eq_div_pow]
  rw [finalFold, BitVec.extractLsb'_toNat, Nat.shiftRight_zero, BitVec.toNat_add, hlow, hhigh]
  omega

/-- The weights as powers of 2, for words given by their number. -/
theorem weightedSum_ofFn {n : Nat} (f : Fin n → Half) :
    weightedSum (List.ofFn f) = ∑ i : Fin n, (f i).toNat * 2 ^ (n - 1 - i.val) := by
  induction n with
  | zero => rfl
  | succ n ih =>
    rw [List.ofFn_succ, weightedSum, List.length_ofFn, ih, Fin.sum_univ_succ]
    congr 1
    refine Finset.sum_congr rfl fun i _ => ?_
    rw [Fin.val_succ, show n + 1 - 1 - (i.val + 1) = n - 1 - i.val by omega]

/-! ### The words of a byte sequence (R130) -/

theorem length_wordsOf (bs : List Byte) : (wordsOf bs).length = bs.length / 2 := by
  match bs with
  | [] => rfl
  | [_] => simp [wordsOf]
  | _ :: _ :: rest =>
    rw [wordsOf, List.length_cons, length_wordsOf rest, List.length_cons, List.length_cons]
    omega

/-- Word i is made of bytes 2i and 2i + 1, the first one low. -/
theorem getElem_wordsOf (bs : List Byte) (i : Nat) (h : i < (wordsOf bs).length) (hbs : 2 * i + 1 < bs.length) :
    (wordsOf bs)[i] = le16 bs[2 * i] bs[2 * i + 1] := by
  match bs, i with
  | [], _ => simp at hbs
  | [_], _ => simp at hbs
  | b0 :: b1 :: rest, 0 => rfl
  | b0 :: b1 :: rest, i + 1 =>
    exact getElem_wordsOf rest i (Nat.lt_of_succ_lt_succ h) (Nat.lt_of_succ_lt_succ (Nat.lt_of_succ_lt_succ hbs))

/-- The ten words of 20 bytes, by their number. -/
theorem wordsOf_vector (body : Vector Byte 20) :
    wordsOf body.toList = List.ofFn fun i : Fin 10 => le16 body[2 * i.val] body[2 * i.val + 1] := by
  have hlen : (wordsOf body.toList).length = 10 := by simp [length_wordsOf]
  apply List.ext_getElem
  · rw [hlen, List.length_ofFn]
  · intro i hi _
    rw [getElem_wordsOf _ i hi (by rw [Vector.length_toList]; omega), List.getElem_ofFn]
    simp

/-- Settles O51: the ten words with their weights, which never wrap, and the final fold. -/
theorem checksumIsTheWeightedFold : Obligations.ChecksumIsTheWeightedFold := by
  unfold Obligations.ChecksumIsTheWeightedFold
  intro body acc
  have hlen : (wordsOf body.toList).length = 10 := by simp [length_wordsOf]
  have hfold : (foldWords (wordsOf body.toList)).toNat = weightedSum (wordsOf body.toList) :=
    foldWords_toNat (by rw [hlen]; decide)
  have hacc : weightedSum (wordsOf body.toList) = acc := by
    rw [wordsOf_vector, weightedSum_ofFn]
    simp only [le16_toNat]
    rfl
  have hle : weightedSum (wordsOf body.toList) ≤ 0x03FEFC01 := by
    simpa [hlen] using weightedSum_le (wordsOf body.toList)
  rw [hacc] at hfold hle
  exact ⟨hfold, hle, by rw [checksum, finalFold_toNat, hfold]⟩

/-! ### The incremental form (R138) -/

/-- Two bytes at a time the incremental form folds the word they make. -/
theorem foldl_incrementalStep (bs : List Byte) (acc : Word) (h : bs.length % 2 = 0) :
    bs.foldl incrementalStep (acc, none) = ((wordsOf bs).foldl foldStep acc, none) := by
  match bs with
  | [] => rfl
  | [_] => cases h
  | b0 :: b1 :: rest =>
    have hrest : rest.length % 2 = 0 := by simpa [Nat.add_assoc] using h
    exact foldl_incrementalStep rest (foldStep acc (le16 b0 b1)) hrest

/-- Settles O53: an even number of bytes leaves no byte held. -/
theorem incrementalChecksumAgrees : Obligations.IncrementalChecksumAgrees := by
  unfold Obligations.IncrementalChecksumAgrees
  intro bs h
  rw [incrementalChecksum, foldl_incrementalStep bs 0 h]
  rfl

end Sys2Proof.Machine
end

section
/-! Proofs about slot words, readings and the PACKET line (30_encoding.md sections 2 and 5; 20_memory.md section 3). -/

namespace Sys2Proof.Machine

/-! ### Slot words and readings (R95) -/

/-- The bits of the word of a record: distance, weak, invalid, strength (R95). -/
theorem getLsbD_slotOf (r : Reading) {i : Nat} (hi : i < 32) : (slotOf r).getLsbD i =
    if i < 14 then r.distanceMm.getLsbD i else if i = 14 then r.weakSignalFlag else if i = 15 then r.invalidFlag
    else r.signalStrength.getLsbD (i - 16) := by
  simp only [slotOf, BitVec.getLsbD_or, BitVec.getLsbD_shiftLeft, BitVec.getLsbD_setWidth, BitVec.getLsbD_ofBool]
  split
  case isTrue h => simp [hi, h, show i < 15 by omega, show i < 16 by omega]
  case isFalse h =>
    have hdist : r.distanceMm.getLsbD i = false := BitVec.getLsbD_of_ge _ _ (by omega)
    split
    case isTrue h14 => simp [h14]
    case isFalse h14 =>
      split
      case isTrue h15 => simp [h15]
      case isFalse h15 =>
        have hflags : ¬ i < 15 ∧ ¬ i < 16 ∧ i - 14 ≠ 0 ∧ i - 15 ≠ 0 ∧ i - 16 < 32 := by omega
        simp [hi, h, hdist, hflags]

theorem slotOf_readingOf (w : Word) : slotOf (readingOf w) = w := by
  apply BitVec.eq_of_getLsbD_eq
  intro i hi
  rw [getLsbD_slotOf _ hi]
  split
  case isTrue h => simp [readingOf, h]
  case isFalse h =>
    split
    case isTrue h14 => rw [h14]; rfl
    case isFalse h14 =>
      split
      case isTrue h15 => rw [h15]; rfl
      case isFalse h15 => simp [readingOf, show i - 16 < 16 by omega, show 16 + (i - 16) = i by omega]

theorem readingOf_slotOf (r : Reading) : readingOf (slotOf r) = r := by
  have hdist : (slotOf r).extractLsb' 0 14 = r.distanceMm := by
    apply BitVec.eq_of_getLsbD_eq
    intro i hi
    rw [BitVec.getLsbD_extractLsb', Nat.zero_add, getLsbD_slotOf r (by omega), if_pos hi, decide_eq_true hi,
      Bool.true_and]
  have hstrength : (slotOf r).extractLsb' 16 16 = r.signalStrength := by
    apply BitVec.eq_of_getLsbD_eq
    intro i hi
    rw [BitVec.getLsbD_extractLsb', getLsbD_slotOf r (by omega), if_neg (by omega), if_neg (by omega),
      if_neg (by omega), decide_eq_true hi, Bool.true_and, Nat.add_sub_cancel_left]
  have hweak : (slotOf r).getLsbD 14 = r.weakSignalFlag := getLsbD_slotOf r (by decide)
  have hinvalid : (slotOf r).getLsbD 15 = r.invalidFlag := getLsbD_slotOf r (by decide)
  rw [readingOf, hdist, hstrength, hweak, hinvalid]

/-! ### Byte lanes (R66) -/

/-- A 32-bit word of four bytes as a number (R14). -/
theorem le32_toNat (b0 b1 b2 b3 : Byte) :
    (le32 b0 b1 b2 b3).toNat = b0.toNat + 2 ^ 8 * b1.toNat + 2 ^ 16 * b2.toNat + 2 ^ 24 * b3.toNat := by
  have hlow := congrArg BitVec.toNat (le32_low_half b0 b1 b2 b3)
  have hhigh := congrArg BitVec.toNat (le32_high_half b0 b1 b2 b3)
  rw [BitVec.extractLsb'_toNat, Nat.shiftRight_zero, le16_toNat] at hlow
  rw [BitVec.extractLsb'_toNat, Nat.shiftRight_eq_div_pow, le16_toNat] at hhigh
  omega

/-- Byte lane j of a word, read off the word as a number; m is the weight of its lowest bit. -/
theorem byteLane_eq_of_toNat {w : Word} {j : Fin 4} {b : Byte} {m : Nat} (hm : 2 ^ (8 * j.val) = m)
    (h : w.toNat / m % 2 ^ 8 = b.toNat) : byteLane w j = b := by
  apply BitVec.eq_of_toNat_eq
  rw [byteLane, BitVec.extractLsb'_toNat, Nat.shiftRight_eq_div_pow, hm, h]

theorem byteLane_le32 (b0 b1 b2 b3 : Byte) :
    byteLane (le32 b0 b1 b2 b3) 0 = b0 ∧ byteLane (le32 b0 b1 b2 b3) 1 = b1 ∧
    byteLane (le32 b0 b1 b2 b3) 2 = b2 ∧ byteLane (le32 b0 b1 b2 b3) 3 = b3 := by
  have h0 := b0.isLt
  have h1 := b1.isLt
  have h2 := b2.isLt
  have h3 := b3.isLt
  have hword := le32_toNat b0 b1 b2 b3
  exact ⟨byteLane_eq_of_toNat (m := 1) rfl (by omega), byteLane_eq_of_toNat (m := 2 ^ 8) rfl (by omega),
    byteLane_eq_of_toNat (m := 2 ^ 16) rfl (by omega), byteLane_eq_of_toNat (m := 2 ^ 24) rfl (by omega)⟩

/-- Settles O55: the fields of the word are the fields of the record, and four bytes make a word of base 256. -/
theorem slotWordsAndReadingsCorrespond : Obligations.SlotWordsAndReadingsCorrespond := by
  unfold Obligations.SlotWordsAndReadingsCorrespond
  exact ⟨slotOf_readingOf, readingOf_slotOf, byteLane_le32⟩

/-! ### The PACKET line (R105) -/

/-- A 16-bit field is made of its two halves. -/
theorem le16_halves (v : Half) : le16 (v.extractLsb' 0 8) (v.extractLsb' 8 8) = v := by
  apply BitVec.eq_of_toNat_eq
  rw [le16_toNat, BitVec.extractLsb'_toNat, BitVec.extractLsb'_toNat, Nat.shiftRight_zero, Nat.shiftRight_eq_div_pow]
  omega

/-- The second byte of a reading block: the flags and the high bits of the distance (R94). -/
def flagByte (r : Reading) : Byte :=
  (BitVec.ofBool r.invalidFlag).setWidth 8 <<< 7 ||| (BitVec.ofBool r.weakSignalFlag).setWidth 8 <<< 6 |||
    (r.distanceMm.extractLsb' 8 6).setWidth 8

/-- The slot word of a reading block with this content. -/
def blockWord (r : Reading) : Word :=
  decodeReading (r.distanceMm.extractLsb' 0 8) (flagByte r) (r.signalStrength.extractLsb' 0 8)
    (r.signalStrength.extractLsb' 8 8)

theorem getLsbD_flagByte (r : Reading) {i : Nat} (hi : i < 6) :
    (flagByte r).getLsbD i = r.distanceMm.getLsbD (8 + i) := by
  simp [flagByte, hi, show i < 7 by omega, show i < 8 by omega]

theorem reading_ext {r q : Reading} (hdist : r.distanceMm = q.distanceMm) (hweak : r.weakSignalFlag = q.weakSignalFlag)
    (hinvalid : r.invalidFlag = q.invalidFlag) (hstrength : r.signalStrength = q.signalStrength) : r = q := by
  cases r
  cases q
  simp_all

/-- The distance of a reading block, from its first byte and the low six bits of its second. -/
theorem blockWord_distance (r : Reading) :
    (le16 (r.distanceMm.extractLsb' 0 8) (flagByte r)).setWidth 14 = r.distanceMm := by
  apply BitVec.eq_of_getLsbD_eq
  intro i hi
  simp only [le16, BitVec.getLsbD_setWidth, BitVec.getLsbD_or, BitVec.getLsbD_shiftLeft, BitVec.getLsbD_extractLsb']
  by_cases h8 : i < 8
  · simp [hi, h8, show i < 16 by omega]
  · rw [getLsbD_flagByte r (by omega), Nat.add_sub_cancel' (by omega)]
    simp [hi, h8, show i < 16 by omega, show i - 8 < 16 by omega]

/-- A reading block written from a record decodes to it. -/
theorem readingOf_blockWord (r : Reading) : readingOf (blockWord r) = r := by
  apply reading_ext
  · rw [blockWord, readingOf_distanceMm, ← le16_low_fourteen, blockWord_distance]
  · rw [blockWord, readingOf_weakSignalFlag, weakFlagOf_eq]
    simp [flagByte]
  · rw [blockWord, readingOf_invalidFlag, invalidFlagOf_eq]
    simp [flagByte]
  · rw [blockWord, readingOf_signalStrength, le16_halves]

/-- The packet that a PACKET line stands for. -/
def linePacket (i : PktIndex) (v : Half) (rd0 rd1 rd2 rd3 : Reading) : PktBuf :=
  ⟨(packetBytes i v rd0 rd1 rd2 rd3).toArray, rfl⟩

/-- The index byte of a PACKET line. -/
theorem indexByte_toNat (i : PktIndex) : (idxLo + BitVec.ofNat 8 i.val : Byte).toNat = 0xA0 + i.val := by
  rw [BitVec.toNat_add, BitVec.toNat_ofNat, BitVec.toNat_ofNat]
  omega

/-- Settles O58: the line's bytes one by one; the checksum bytes are the halves of the checksum of the other 20. -/
theorem packetLineIsWellFormed : Obligations.PacketLineIsWellFormed := by
  unfold Obligations.PacketLineIsWellFormed
  intro i v rd
  refine ⟨linePacket i v (rd 0) (rd 1) (rd 2) (rd 3), rfl, rfl, indexByte_toNat i, le16_halves v, le16_halves _,
    fun k => ?_⟩
  match k with
  | 0 => exact readingOf_blockWord (rd 0)
  | 1 => exact readingOf_blockWord (rd 1)
  | 2 => exact readingOf_blockWord (rd 2)
  | 3 => exact readingOf_blockWord (rd 3)

end Sys2Proof.Machine
end

section
/-! Proofs about runs of whole packets (41_framer.md sections 3 and 4; 43_scan_assembler.md): the 22 bytes of a packet
one by one, stray sentinels before the index byte, and the 90 packets of a revolution. -/

namespace Sys2Proof.Machine

/-! ### One byte -/

/-- A running block given a byte takes the effect of the operation that its parser selects. -/
theorem step_byte_of_effect {s t : State} {b : Byte} {ws : List EventWord} {i : Instr} (hrun : s.run = .running)
    (hevents : s.events = byteWord b :: ws) (hop : byteOp s.fsm s.bodyCnt b = i)
    (h : Effect { s with events := ws } i t) : step s = .next t := by
  rw [step_byte hrun hevents, hop]
  exact exec_of_effect h

theorem step_sentinel {s : State} {ws : List EventWord} (hrun : s.run = .running) (hfsm : s.fsm = .seekStart)
    (hevents : s.events = byteWord sentinel :: ws) :
    step s = .next { s with fsm := .seekIndex, pktBuf := s.pktBuf.set 0 sentinel, events := ws } :=
  step_byte_of_effect hrun hevents (by rw [hfsm]; rfl) (.ssSync hrun hfsm)

theorem step_resync {s : State} {ws : List EventWord} (hrun : s.run = .running) (hfsm : s.fsm = .seekIndex)
    (hevents : s.events = byteWord sentinel :: ws) :
    step s = .next { s with
      pktBuf := s.pktBuf.set 0 sentinel, events := ws, trace := s.trace ++ [.cond (.resync sentinel)] } :=
  step_byte_of_effect hrun hevents (by rw [hfsm]; rfl) (.siResync hrun hfsm)

theorem step_index {s : State} {b : Byte} {ws : List EventWord} (hrun : s.run = .running) (hfsm : s.fsm = .seekIndex)
    (hb : isIndexByte b = true) (hevents : s.events = byteWord b :: ws) :
    step s = .next { s with
      fsm := .readBody, bodyCnt := 0, pktIdx := packetIndex b, pktBuf := s.pktBuf.set 1 b, events := ws } :=
  step_byte_of_effect hrun hevents (by rw [hfsm, byteOp_seekIndex, if_pos hb]) (.siIndex b hrun hfsm hb)

theorem step_body {s : State} {b : Byte} {ws : List EventWord} (hrun : s.run = .running) (hfsm : s.fsm = .readBody)
    (hcnt : s.bodyCnt.val < 19) (hevents : s.events = byteWord b :: ws) :
    step s = .next { s with
      bodyCnt := s.bodyCnt + 1, pktBuf := s.pktBuf.set (bodyByte s.bodyCnt).val b, events := ws } :=
  step_byte_of_effect hrun hevents (by rw [hfsm, byteOp_readBody]; exact if_pos hcnt) (.rbByte b hrun hfsm hcnt)

theorem step_last {s t : State} {b : Byte} {ws : List EventWord} (hrun : s.run = .running) (hfsm : s.fsm = .readBody)
    (hcnt : s.bodyCnt.val = 19) (hevents : s.events = byteWord b :: ws)
    (h : exec (.rbLast b) { s with events := ws } = .next t) : step s = .next t := by
  have hop : byteOp s.fsm s.bodyCnt b = .rbLast b := by
    rw [hfsm, byteOp_readBody, if_neg (by rw [hcnt]; decide)]
  rw [step_byte hrun hevents, hop, h]

theorem run_one_of_step {s t : State} (h : step s = .next t) : Host.Core.run Sys2Proof.core 1 s = .next t :=
  (run_of_step h).trans (run_zero t)

/-! ### Stray sentinels (41_framer.md section 4) -/

/-- Sentinels in SEEK_INDEX leave the parser where it is; each adds its label. -/
theorem run_resyncs (n : Nat) {s : State} (ws : List EventWord) (hrun : s.run = .running) (hfsm : s.fsm = .seekIndex)
    (hbuf : s.pktBuf.set 0 sentinel = s.pktBuf) :
    Host.Core.run Sys2Proof.core n { s with events := List.replicate n (byteWord sentinel) ++ ws } =
      .next { s with events := ws, trace := s.trace ++ List.replicate n (.cond (.resync sentinel)) } := by
  induction n generalizing s with
  | zero => simp [run_zero]
  | succ n ih =>
    have hstep := step_resync (s := { s with events := List.replicate (n + 1) (byteWord sentinel) ++ ws })
      (ws := List.replicate n (byteWord sentinel) ++ ws) hrun hfsm rfl
    simp only [hbuf] at hstep
    rw [run_of_step hstep, ih (s := { s with trace := s.trace ++ [.cond (.resync sentinel)] }) hrun hfsm hbuf,
      List.replicate_succ, List.append_assoc]
    rfl

/-- The block after the sentinel of a packet, with ws still offered. -/
def State.synced (s : State) (ws : List EventWord) : State :=
  { s with fsm := .seekIndex, pktBuf := s.pktBuf.set 0 sentinel, events := ws }

/-- The block after the sentinel and an index byte, with ws still offered. -/
def State.indexed (s : State) (b : Byte) (ws : List EventWord) : State :=
  { s with
    fsm := .readBody, bodyCnt := 0, pktIdx := packetIndex b, pktBuf := (s.pktBuf.set 0 sentinel).set 1 b, events := ws }

/-- Settles O39: the first sentinel leaves SEEK_START, the others change nothing but the trace. -/
theorem straySentinelsAreHarmless : Obligations.StraySentinelsAreHarmless := by
  unfold Obligations.StraySentinelsAreHarmless
  intro s n b rest hrun hfsm hlo hhi
  have hb : isIndexByte b = true := (isIndexByte_iff b).2 ⟨hlo, hhi⟩
  have hbuf : (s.synced []).pktBuf.set 0 sentinel = (s.synced []).pktBuf := Vector.set_set ..
  have hsync (ws : List EventWord) :
      step { s with events := byteWord sentinel :: ws } = .next (s.synced ws) := step_sentinel hrun hfsm rfl
  have hindex : step (s.synced (byteWord b :: rest)) = .next (s.indexed b rest) := step_index hrun rfl hb rfl
  refine ⟨s.indexed b rest, ?_, rfl, ?_⟩
  · exact (run_of_step (hsync _)).trans (run_one_of_step hindex)
  · rw [List.replicate_succ, List.cons_append, run_of_step (n := n + 1) (hsync _)]
    refine (run_add (run_resyncs n (s := s.synced []) (byteWord b :: rest) hrun rfl hbuf)).trans ?_
    exact run_one_of_step (step_index hrun rfl hb rfl)

/-! ### The 22 bytes of a packet -/

/-- The capture buffer when the first n bytes of p have arrived, over what was captured before (R28). -/
def captured (p old : PktBuf) (n : Nat) : PktBuf := Vector.ofFn fun j => if j.val < n then p[j] else old[j]

theorem captured_zero (p old : PktBuf) : captured p old 0 = old := by
  ext j hj
  simp [captured]

theorem captured_all (p old : PktBuf) : captured p old 22 = p := by
  ext j hj
  simp [captured]

/-- One more byte of p arrives. -/
theorem captured_succ (p old : PktBuf) {n : Nat} (hn : n < 22) :
    (captured p old n).set n p[n] = captured p old (n + 1) := by
  ext j hj
  rw [Vector.getElem_set]
  split
  case isTrue h => simp [captured, ← h]
  case isFalse h =>
    have hlt : j < n ↔ j < n + 1 := by omega
    simp [captured, hlt]

/-- The words of the bytes of p from byte n on, before the words of rest. -/
def bytesFrom (p : PktBuf) (n : Nat) (rest : List EventWord) : List EventWord :=
  (p.toList.drop n).map byteWord ++ rest

theorem bytesFrom_zero (p : PktBuf) (rest : List EventWord) : bytesFrom p 0 rest = p.toList.map byteWord ++ rest := rfl

theorem bytesFrom_all (p : PktBuf) (rest : List EventWord) : bytesFrom p 22 rest = rest := by
  simp [bytesFrom]

theorem bytesFrom_eq_cons (p : PktBuf) (rest : List EventWord) {n : Nat} (hn : n < 22) :
    bytesFrom p n rest = byteWord p[n] :: bytesFrom p (n + 1) rest := by
  rw [bytesFrom, List.drop_eq_getElem_cons (by simpa using hn)]
  simp [bytesFrom]

/-- The block in the body of p: cnt body bytes have arrived, and ws is still offered. -/
def State.inBody (s : State) (p : PktBuf) (cnt : BodyCount) (ws : List EventWord) : State :=
  { s with
    fsm := .readBody, bodyCnt := cnt, pktIdx := packetIndex p[1], pktBuf := captured p s.pktBuf (2 + cnt.val)
    events := ws }

section Packet
variable {s : State} {p : PktBuf} {rest : List EventWord}

/-- With the sentinel and the index byte of p the first two bytes of p are captured. -/
theorem indexed_eq_inBody (hsync : p[0] = sentinel) (ws : List EventWord) : s.indexed p[1] ws = s.inBody p 0 ws := by
  have hfirst : s.pktBuf.set 0 sentinel = captured p s.pktBuf 1 := by
    rw [← hsync, ← captured_succ p s.pktBuf (by decide), captured_zero]
  have hbuf : (s.pktBuf.set 0 sentinel).set 1 p[1] = captured p s.pktBuf (2 + (0 : BodyCount).val) := by
    rw [hfirst]
    exact captured_succ p s.pktBuf (by decide)
  rw [State.indexed, State.inBody, hbuf]

/-- Sentinel and index byte take the block into the body. -/
theorem run_packet_head (hrun : s.run = .running) (hfsm : s.fsm = .seekStart) (hsync : p[0] = sentinel)
    (hindex : isIndexByte p[1] = true) (hevents : s.events = p.toList.map byteWord ++ rest) :
    Host.Core.run Sys2Proof.core 2 s = .next (s.inBody p 0 (bytesFrom p 2 rest)) := by
  rw [← bytesFrom_zero, bytesFrom_eq_cons p rest (by decide), hsync] at hevents
  have hstep : step (s.synced (bytesFrom p 1 rest)) = .next (s.indexed p[1] (bytesFrom p 2 rest)) :=
    step_index hrun rfl hindex (bytesFrom_eq_cons p rest (by decide))
  rw [indexed_eq_inBody hsync] at hstep
  exact (run_of_step (step_sentinel hrun hfsm hevents)).trans (run_one_of_step hstep)

/-- A body byte before the last is captured and counted. -/
theorem step_inBody (hrun : s.run = .running) {cnt : BodyCount} (hcnt : cnt.val < 19) :
    step (s.inBody p cnt (bytesFrom p (2 + cnt.val) rest)) =
      .next (s.inBody p (cnt + 1) (bytesFrom p (2 + (cnt + 1).val) rest)) := by
  have hnext : (cnt + 1).val = cnt.val + 1 := bodyCount_add_one_val hcnt
  rw [step_body (s := s.inBody p cnt (bytesFrom p (2 + cnt.val) rest)) hrun rfl hcnt
    (bytesFrom_eq_cons p rest (by omega))]
  simp only [State.inBody, hnext, ← captured_succ p s.pktBuf (show 2 + cnt.val < 22 by omega), ← Nat.add_assoc]
  rfl

theorem run_inBody (hrun : s.run = .running) (n : Nat) (hn : n < 20) :
    Host.Core.run Sys2Proof.core n (s.inBody p 0 (bytesFrom p 2 rest)) =
      .next (s.inBody p ⟨n, hn⟩ (bytesFrom p (2 + n) rest)) := by
  induction n with
  | zero => rfl
  | succ n ih =>
    have hnext : (⟨n, by omega⟩ : BodyCount) + 1 = ⟨n + 1, hn⟩ :=
      Fin.ext (bodyCount_add_one_val (Nat.lt_of_succ_lt_succ hn))
    have hstep := step_inBody (p := p) (rest := rest) hrun (cnt := ⟨n, by omega⟩) (Nat.lt_of_succ_lt_succ hn)
    rw [hnext] at hstep
    rw [run_add (ih (by omega))]
    exact run_one_of_step hstep

/-- A packet's 22 bytes take 22 steps, of which the last is RB_LAST on the captured packet (41_framer.md section 4). -/
theorem run_packet {t : State} (hrun : s.run = .running) (hfsm : s.fsm = .seekStart) (hsync : p[0] = sentinel)
    (hindex : isIndexByte p[1] = true) (hevents : s.events = p.toList.map byteWord ++ rest)
    (hlast : exec (.rbLast p[21]) (s.inBody p 19 rest) = .next t) :
    Host.Core.run Sys2Proof.core 22 s = .next t := by
  rw [run_add (m := 2) (n := 20) (run_packet_head hrun hfsm hsync hindex hevents),
    run_add (m := 19) (n := 1) (run_inBody hrun 19 (by decide))]
  refine run_one_of_step (step_last hrun rfl rfl (bytesFrom_eq_cons p rest (by decide)) ?_)
  rw [bytesFrom_all]
  exact hlast

/-- With its last byte the captured packet is complete. -/
theorem inBody_last_pktBuf (ws : List EventWord) : (s.inBody p 19 ws).pktBuf.set 21 p[21] = p :=
  (captured_succ p s.pktBuf (by decide)).trans (captured_all p s.pktBuf)

end Packet

end Sys2Proof.Machine
end

section
/-! Proofs about whole packets and whole revolutions (41_framer.md section 4; 43_scan_assembler.md): the effect of
RB_LAST at the end of the 22 steps, and 90 packets one after the other. -/

namespace Sys2Proof.Machine

/-! ### One packet -/

/-- Settles O37: after 21 steps RB_LAST meets the mismatch, whose whole effect is known. -/
theorem corruptPacketOnlyCounted : Obligations.CorruptPacketOnlyCounted := by
  unfold Obligations.CorruptPacketOnlyCounted
  intro s p rest hrun hfsm hlegal hsync hlo hhi hne hevents
  have hindex : isIndexByte p[1] = true := (isIndexByte_iff p[1]).2 ⟨hlo, hhi⟩
  have hlast := discardedPacketOnlyCounted (s.inBody p 19 rest) p[21] p hrun rfl rfl (inBody_last_pktBuf rest).symm hne
  exact ⟨_, run_packet hrun hfsm hsync hindex hevents hlast, rfl, rfl, rfl,
    bumpErr_toNat (Config.errW_le hlegal) s.errCount, rfl, rfl, rfl, rfl, rfl, rfl, rfl, packetIndex p[1],
    packetIndex_val hindex, rfl⟩

/-- Settles O36: after 21 steps RB_LAST meets a passing packet, whose whole effect is known. -/
theorem wellFormedPacketAssembled : Obligations.WellFormedPacketAssembled := by
  unfold Obligations.WellFormedPacketAssembled
  intro s p rest hrun hfsm hsync hlo hhi hchk hevents
  have hindex : isIndexByte p[1] = true := (isIndexByte_iff p[1]).2 ⟨hlo, hhi⟩
  have hidx : (s.inBody p 19 rest).pktIdx.val = p[1].toNat - 0xA0 := packetIndex_val hindex
  have hidx89 : (s.inBody p 19 rest).pktIdx.val = 89 ↔ p[1].toNat = 0xF9 := by omega
  obtain ⟨t, hexec, hrunt, hfsmt, hcnt, hpktIdx, hbuf, herr, hcfg, hev, hspeed, hwork, hseen, hdone, hnot⟩ :=
    passingPacketFullEffect (s.inBody p 19 rest) p[21] p hrun rfl rfl (inBody_last_pktBuf rest).symm hchk
  rw [hidx89] at hdone hnot
  refine ⟨t, run_packet hrun hfsm hsync hindex hevents hexec, hrunt, hfsmt, hcnt, hbuf, hev, hcfg,
    (congrArg Fin.val hpktIdx).trans hidx, herr, hspeed, fun a => ?_, fun j => ?_, hdone, fun h => ?_⟩
  · rw [← hidx]
    exact hwork a
  · have hj : (j == (s.inBody p 19 rest).pktIdx) = decide (j.val = p[1].toNat - 0xA0) := by
      rw [← hidx, Bool.eq_iff_iff, beq_iff_eq, decide_eq_true_iff, Fin.ext_iff]
    rw [← hj]
    exact hseen j
  · obtain ⟨hpub, hvalid, hreq, hresp, htrace⟩ := hnot h
    exact ⟨hpub, hvalid, hresp, hreq, htrace⟩

/-! ### One PACKET line -/

/-- What the 22 steps of `PACKET i, v, rd` do to a running block, whatever i is. -/
structure LineTaken (s : State) (i : PktIndex) (v : Half) (rd : Lane → Reading) (t : State) : Prop where
  run : t.run = .running
  fsm : t.fsm = .seekStart
  cnt : t.bodyCnt = 0
  cfg : t.cfg = s.cfg
  errCount : t.errCount = s.errCount
  lastSpeed : t.lastSpeed = v
  own : ∀ k, readingOf t.work[angleOf i k] = rd k
  other : ∀ j k, j ≠ i → t.work[angleOf j k] = s.work[angleOf j k]
  seen : ∀ j, t.seen[j] = (s.seen[j] || (s.cfg.fillGuard && decide (j = i)))

/-- The publication test of index i, before the packet is taken (R210, R217). -/
def Completes (s : State) (i : PktIndex) : Prop := i.val = 89 ∧ s.fillReady

/-- A PACKET line that does not complete the revolution publishes and outputs nothing; one that does answers a pending
request with the array it leaves in WORK. -/
structure LinePublished (s : State) (i : PktIndex) (t : State) : Prop where
  done : Completes s i → t.pub = t.work ∧ t.pubValid = true ∧ t.reqPending = false ∧
    t.resp = (if s.reqPending then t.work else s.resp) ∧
    t.trace = s.trace ++ (if s.reqPending then [.resp (.scan t.work)] else [])
  notDone : ¬Completes s i → t.resp = s.resp ∧ t.reqPending = s.reqPending ∧ t.trace = s.trace

/-- The 22 steps of a PACKET line (R105). -/
theorem run_packetLine {s : State} {rest : List EventWord} (i : PktIndex) (v : Half) (rd : Lane → Reading)
    (hrun : s.run = .running) (hfsm : s.fsm = .seekStart)
    (hevents : s.events = lineWords (.packet i v (rd 0) (rd 1) (rd 2) (rd 3)) ++ rest) :
    ∃ t, Host.Core.run Sys2Proof.core 22 s = .next t ∧ t.events = rest ∧ LineTaken s i v rd t ∧
      LinePublished s i t := by
  obtain ⟨p, hp, hsync, hindex, hspeed, hchk, hread⟩ := packetLineIsWellFormed i v rd
  have hidx : p[1].toNat - 0xA0 = i.val := by omega
  have hidx89 : p[1].toNat = 0xF9 ↔ i.val = 89 := by omega
  obtain ⟨t, hrunt, hr, hf, hc, -, hev, hcfg, -, herr, hlast, hwork, hseen, hdone, hnot⟩ :=
    wellFormedPacketAssembled s p rest hrun hfsm hsync (by omega) (by omega) hchk (by rw [hevents, hp]; rfl)
  rw [hidx89] at hdone hnot
  refine ⟨t, hrunt, hev, ⟨hr, hf, hc, hcfg, herr, hlast.trans hspeed, fun k => ?_, fun j k hj => ?_, fun j => ?_⟩,
    ⟨hdone, fun h => ?_⟩⟩
  · have hk : (angleOf i k).val % 4 = k.val := angleOf_mod i k
    have hword := hwork (angleOf i k)
    rw [hidx, angleOf_div, if_pos rfl] at hword
    simp only [hk] at hword
    rw [hword]
    exact hread k
  · have hne : j.val ≠ i.val := fun h => hj (Fin.ext h)
    rw [hwork, hidx, angleOf_div, if_neg hne]
  · rw [hseen, hidx]
    simp only [Fin.ext_iff]
  · obtain ⟨-, -, hresp, hreq, htrace⟩ := hnot h
    exact ⟨hresp, hreq, htrace⟩

/-! ### A revolution -/

section Revolution
variable (v : PktIndex → Half) (rd : PktIndex → Lane → Reading) (rest : List EventWord)

/-- The words of packets n to 89. -/
def linesFrom (n : Nat) : List EventWord :=
  stimulus (((List.finRange 90).drop n).map fun i => .packet i (v i) (rd i 0) (rd i 1) (rd i 2) (rd i 3)) ++ rest

theorem linesFrom_eq_append (i : PktIndex) : linesFrom v rd rest i.val =
    lineWords (.packet i (v i) (rd i 0) (rd i 1) (rd i 2) (rd i 3)) ++ linesFrom v rd rest (i.val + 1) := by
  have hi : i.val < (List.finRange 90).length := by simp
  rw [linesFrom, List.drop_eq_getElem_cons hi, List.getElem_finRange]
  simp [linesFrom, stimulus]

theorem linesFrom_all : linesFrom v rd rest 90 = rest := by
  rw [linesFrom, List.drop_eq_nil_of_le (by simp)]
  rfl

/-- Packets 0 to n - 1 have been taken since s, and none of them has published. -/
structure Taken (s : State) (n : Nat) (t : State) : Prop where
  run : t.run = .running
  fsm : t.fsm = .seekStart
  events : t.events = linesFrom v rd rest n
  cfg : t.cfg = s.cfg
  errCount : t.errCount = s.errCount
  resp : t.resp = s.resp
  reqPending : t.reqPending = s.reqPending
  trace : t.trace = s.trace
  work : ∀ i k, i.val < n → readingOf t.work[angleOf i k] = rd i k
  seen : t.cfg.fillGuard = true → ∀ j : PktIndex, j.val < n → t.seen[j] = true

/-- The readings of packets 0 to i stand in WORK after packet i (R212). -/
theorem work_after_line {s t : State} {i : PktIndex}
    (hs : ∀ j k, j.val < i.val → readingOf s.work[angleOf j k] = rd j k) (h : LineTaken s i (v i) (rd i) t)
    (j : PktIndex) (k : Lane) (hj : j.val < i.val + 1) : readingOf t.work[angleOf j k] = rd j k := by
  by_cases hij : j = i
  · rw [hij]
    exact h.own k
  · have hlt : j.val < i.val := Nat.lt_of_le_of_ne (Nat.le_of_lt_succ hj) fun hv => hij (Fin.ext hv)
    rw [h.other j k hij]
    exact hs j k hlt

/-- The indices 0 to i have been seen after packet i, when FILL_GUARD (R37). -/
theorem seen_after_line {s t : State} {i : PktIndex} {w : Half} {r : Lane → Reading} (hg : s.cfg.fillGuard = true)
    (hs : ∀ j : PktIndex, j.val < i.val → s.seen[j] = true) (h : LineTaken s i w r t) (j : PktIndex)
    (hj : j.val < i.val + 1) : t.seen[j] = true := by
  rw [h.seen, hg, Bool.true_and]
  by_cases hij : j = i
  · rw [decide_eq_true hij, Bool.or_true]
  · have hlt : j.val < i.val := Nat.lt_of_le_of_ne (Nat.le_of_lt_succ hj) fun hv => hij (Fin.ext hv)
    rw [hs j hlt, Bool.true_or]

/-- Packets 0 to n - 1 take 22 steps each, and up to packet 88 nothing is published (R213). -/
theorem run_lines {s : State} (hrun : s.run = .running) (hfsm : s.fsm = .seekStart)
    (hevents : s.events = linesFrom v rd rest 0) (n : Nat) (hn : n ≤ 89) :
    ∃ t, Host.Core.run Sys2Proof.core (22 * n) s = .next t ∧ Taken v rd rest s n t := by
  induction n with
  | zero =>
    exact ⟨s, run_zero s, hrun, hfsm, hevents, rfl, rfl, rfl, rfl, rfl, fun _ _ h => absurd h (Nat.not_lt_zero _),
      fun _ _ h => absurd h (Nat.not_lt_zero _)⟩
  | succ n ih =>
    obtain ⟨t, hrunt, ht⟩ := ih (by omega)
    obtain ⟨u, hrunu, hev, hline, hpub⟩ := run_packetLine ⟨n, by omega⟩ (v _) (rd _) ht.run ht.fsm
      (ht.events.trans (linesFrom_eq_append v rd rest ⟨n, by omega⟩))
    obtain ⟨hresp, hreq, htrace⟩ := hpub.notDone fun h => absurd h.1 (by simp only; omega)
    refine ⟨u, by rw [Nat.mul_succ, run_add hrunt, hrunu], hline.run, hline.fsm, hev, hline.cfg.trans ht.cfg,
      hline.errCount.trans ht.errCount, hresp.trans ht.resp, hreq.trans ht.reqPending, htrace.trans ht.trace,
      work_after_line v rd ht.work hline, fun hg => ?_⟩
    have hgt : t.cfg.fillGuard = true := hline.cfg ▸ hg
    exact seen_after_line hgt (ht.seen hgt) hline

end Revolution

/-- Settles O38: 89 packets that publish nothing, then packet 89, which finds every other index seen. -/
theorem fullRevolutionAnswersOnce : Obligations.FullRevolutionAnswersOnce := by
  unfold Obligations.FullRevolutionAnswersOnce
  intro s v rd rest hrun hfsm hevents
  obtain ⟨t, hrunt, ht⟩ := run_lines v rd rest hrun hfsm hevents 89 (Nat.le_refl 89)
  obtain ⟨u, hrunu, hev, hline, hpub⟩ := run_packetLine 89 (v 89) (rd 89) ht.run ht.fsm
    (ht.events.trans (linesFrom_eq_append v rd rest 89))
  have hfill : t.fillReady := fun hg j hj => ht.seen hg j (by omega)
  obtain ⟨hpubwork, hvalid, hreq, hresp, htrace⟩ := hpub.done ⟨rfl, hfill⟩
  have hwork (i : PktIndex) (k : Lane) : readingOf u.work[angleOf i k] = rd i k :=
    work_after_line v rd ht.work hline i k i.isLt
  rw [← hpubwork, ht.reqPending] at hresp htrace
  rw [ht.resp] at hresp
  rw [ht.trace] at htrace
  rw [← hpubwork] at hwork
  exact ⟨u, (run_add hrunt).trans hrunu, hline.run, hline.fsm, hline.cnt, hev.trans (linesFrom_all v rd rest), hwork,
    hpubwork.symm, hvalid, hreq, hline.errCount.trans ht.errCount, hline.lastSpeed, hresp, htrace⟩

end Sys2Proof.Machine
end
